-- ==== Sys2Proof/Word.lean ====
section
/-! DEFINITION. The two word types of CVS-1 (spec/30_encoding.md R80, spec/20_memory.md R60). -/

namespace Sys2Proof

/-- One bus datum or one chip register value: 8 bits (R60). -/
abbrev Byte := BitVec 8

/-- One command word: 32 bits, bit 31 most significant (R80). -/
abbrev Word := BitVec 32

end Sys2Proof
end

