-- ==== Sys2Proof/Machine/Types.lean ====
section
/-! DEFINITION. The data types of CVS: the enumerations of spec/30_encoding.md and spec/60_exceptions.md, and the
records of spec/10_state.md. Sizes of R8: 18 physical channels, 5 percussion roles, 23 logical channels, 23 voice slots,
36 operators, 16 MIDI channels. -/

namespace Sys2Proof.Machine

/-- The type of a LogicalChannel (R21, R90). -/
inductive ChType where
  | null | twoOp | fourOp | kick | snare | tomTom | cymbal | hiHat
  deriving DecidableEq, Repr

/-- The types a physical channel 0..17 may have (R21). -/
inductive PhysType where
  | null | twoOp | fourOp
  deriving DecidableEq, Repr

/-- The operator types that GET_OP_TYPE answers (R91). -/
inductive OpType where
  | null | carrier | modulator
  deriving DecidableEq, Repr

/-- The voice states, read off a slot's fields (R36). -/
inductive VoiceState where
  | free | playing | sustained | releasing
  deriving DecidableEq, Repr

/-- The status codes of `RESULT` (R271). -/
inductive Code where
  | ok | invalidHandle | outOfRange | resourceExhausted | invalidTransition | illegalCommand
  deriving DecidableEq, Repr

/-- The functions that the controller map assigns to controller numbers (R88). -/
inductive Controller where
  | program | volume | algorithm | feedback | output | lfoDelay
  | opAttack | opDecay | opSustain | opRelease | opWaveform | opLevel | opKsl | opMult
  | opTremolo | opVibrato | opSusflag | opEnvscale | opVelsens
  | sustainPedal | allSoundOff | allNotesOff
  deriving DecidableEq, Repr

/-- The two address sets of the chip (R62). -/
abbrev SetId := Fin 2

/-- A physical channel, 0..17. -/
abbrev PhysId := Fin 18

/-- A LogicalChannel id, that is a handle that can be valid: 0..17 physical, 18..22 percussion roles (R13). -/
abbrev Handle := Fin 23

/-- An operator, 0..35. -/
abbrev OperId := Fin 36

/-- A voice slot, 0..22 (R35). -/
abbrev SlotId := Fin 23

/-- A MIDI channel, 0..15 (R40). -/
abbrev MidiId := Fin 16

/-- A pair of `PAIRS`, 0..5 (R8). -/
abbrev PairId := Fin 6

/-- A percussion role, 0..4: Kick, Snare, TomTom, Cymbal, HiHat (R26). -/
abbrev RoleId := Fin 5

/-- The cached fields of a physical channel (R28). -/
structure Chan where
  fnum : BitVec 10
  block : BitVec 3
  keyOn : BitVec 1
  out : BitVec 4
  fb : BitVec 3
  cnt : BitVec 1
  deriving DecidableEq, Repr

/-- The cached fields of an operator (R29). -/
structure Oper where
  trem : BitVec 1
  vib : BitVec 1
  sus : BitVec 1
  ksr : BitVec 1
  mult : BitVec 4
  ksl : BitVec 2
  tl : BitVec 6
  ar : BitVec 4
  dr : BitVec 4
  sl : BitVec 4
  rr : BitVec 4
  ws : BitVec 3
  deriving DecidableEq, Repr

/-- An operator template of a patch (R42). -/
structure Template where
  ar : BitVec 4
  dr : BitVec 4
  sl : BitVec 4
  rr : BitVec 4
  ws : BitVec 3
  level : BitVec 6
  ksl : BitVec 2
  mult : BitVec 4
  trem : BitVec 1
  vib : BitVec 1
  sus : BitVec 1
  ksr : BitVec 1
  velSens : BitVec 6
  deriving DecidableEq, Repr

/-- A MIDI channel's patch (R40); `ctype` is the rule's field `type`. -/
structure Patch where
  ctype : ChType
  algorithm : BitVec 2
  out : BitVec 4
  fb : BitVec 3
  volume : BitVec 6
  /-- Two's complement, -200..200. -/
  bendCents : BitVec 9
  pedal : Bool
  lfoDelay : BitVec 7
  op : Vector Template 4
  deriving DecidableEq, Repr

/-- A voice slot (R35); `lchan = none` is the sentinel `INVALID`. -/
structure Slot where
  midiCh : MidiId
  note : BitVec 7
  velocity : BitVec 7
  lchan : Option Handle
  duration : BitVec 15
  releaseDuration : BitVec 15
  releasing : Bool
  sustained : Bool
  lfoTriggered : Bool
  deriving DecidableEq, Repr

/-- One RegisterBus transaction (R61). -/
inductive BusTx where
  | write (addr : BitVec 16) (data : Byte)
  | read (addr : BitVec 16) (data : Byte)
  deriving DecidableEq, Repr

/-- What the host does to the block: it writes a command word to `CMD`, or raises the reset event (R300). A reset that
comes while a command is in flight comes after `after` of that command's bus transactions (R301). -/
inductive HostInput where
  | writeCmd (w : Word)
  | reset (after : Nat)
  deriving DecidableEq, Repr

end Sys2Proof.Machine
end

