-- ==== Sys2Proof/Config.lean ====
section
/-! DEFINITION. What is fixed for one machine: the record of parameters (spec/00_scope.md R8), with the limits on its
values (spec/93_implementation_defined.md V14), and the free values, which the spec leaves open. The default values of
the parameters stand in Machine/Tables.lean. -/

namespace Sys2Proof.Config

open Sys2Proof.Machine

/-- The sizes of the block (R8). -/
structure Sizes where
  nPhys : Nat
  nPerc : Nat
  nLchan : Nat
  nSlots : Nat
  nOps : Nat
  nMidi : Nat
  deriving DecidableEq, Repr

/-- One row of `CCMAP`: the numbers `first` to `last` carry one function; a row of four carries it for the operator
indices 0 to 3 (R88). -/
structure CcRow where
  first : Byte
  last : Byte
  name : Controller
  deriving DecidableEq, Repr

/-- `REGMAP`'s bit positions: for each field the bit of its register byte where the field's lowest bit stands (R96 to
R104). `fnumLow` is `fnum[7:0]`, `fnumHigh` is `fnum[9:8]`, `percKey` has a position for each role, `fourOpMask` is
the position of the bit of pair 0, and the timer and status positions are those of the timer-control register and of the
status byte. -/
structure BitMap where
  trem : Nat
  vib : Nat
  sus : Nat
  ksr : Nat
  mult : Nat
  ksl : Nat
  tl : Nat
  ar : Nat
  dr : Nat
  sl : Nat
  rr : Nat
  ws : Nat
  fnumLow : Nat
  keyOn : Nat
  block : Nat
  fnumHigh : Nat
  out : Nat
  fb : Nat
  cnt : Nat
  percEnabled : Nat
  percKey : Vector Nat 5
  fourOpMask : Nat
  modeEnable : Nat
  timerFlagReset : Nat
  timer1Mask : Nat
  timer2Mask : Nat
  timer1Start : Nat
  statusIrq : Nat
  statusTimer1 : Nat
  statusTimer2 : Nat
  deriving DecidableEq, Repr

/-- The register bases, the global register indices and the bit positions of the chip, the configuration table `REGMAP`
(R3, R95 to R104). -/
structure RegMap where
  opFlags : Byte
  opLevel : Byte
  opAttackDecay : Byte
  opSustainRelease : Byte
  opWave : Byte
  chFnumLow : Byte
  chKeyBlock : Byte
  chOutput : Byte
  percussion : SetId × Byte
  fourOpEnable : SetId × Byte
  mode : SetId × Byte
  timer1 : SetId × Byte
  timerControl : SetId × Byte
  bits : BitMap
  deriving DecidableEq, Repr

/-- The parameters of CVS as one record (R8). -/
structure Params where
  /-- `N_PHYS`, `N_PERC`, `N_LCHAN`, `N_SLOTS`, `N_OPS`, `N_MIDI`; the index types of Machine/Types.lean have these sizes. -/
  sizes : Sizes
  /-- `INVALID`, the handle sentinel. -/
  invalid : Byte
  /-- `DUR_MAX`, where both duration counters saturate. -/
  durMax : Nat
  /-- `LFO_MULT_MS`. -/
  lfoMultMs : Nat
  /-- `RELEASE_MS`; `none` is "never" (R246). -/
  releaseMs : Vector (Option Nat) 16
  /-- `CEIL0_CHZ`. -/
  ceil0Chz : Nat
  /-- `FNUM_DIV`. -/
  fnumDiv : Nat
  /-- `FNUM_MAX`. -/
  fnumMax : Nat
  /-- `BASE`, the bus address of the first address port. -/
  base : BitVec 16
  /-- `PAIRS`, each (primary, secondary). -/
  pairs : Vector (PhysId × PhysId) 6
  /-- `PRIO2`. -/
  prio2 : List PhysId
  /-- `PRIO4`. -/
  prio4 : List PhysId
  /-- `CONV4`. -/
  conv4 : List PairId
  /-- `CONV2`. -/
  conv2 : List PairId
  /-- `NOTE_CHZ`, from note -2 to note 129 (R108). -/
  noteChz : List Nat
  /-- `PATCH_DEFAULT` (R41). -/
  patchDefault : Patch
  /-- `CCMAP` (R88). -/
  ccmap : List CcRow
  /-- `physOps`: the two operators of each physical channel (R92). -/
  chanOps : Vector (OperId × OperId) 18
  /-- The operators each percussion role owns (R92). -/
  roleOps : Vector (List OperId) 5
  /-- The physical channel each percussion role uses (R94). -/
  roleChan : Vector PhysId 5
  /-- The carriers of a channel with two operators, by its connection bit (R148). -/
  carriers2 : Vector (List Nat) 2
  /-- The carriers of a channel with four operators, by its algorithm (R148). -/
  carriers4 : Vector (List Nat) 4
  /-- `REGMAP`. -/
  regs : RegMap
  /-- `INIT_PROLOGUE`: the registers, each with its address set, and the values written. -/
  initPrologue : List ((SetId × Byte) × Byte)
  deriving DecidableEq, Repr

/-- The bit positions of `REGMAP` (R96 to R104). -/
abbrev Params.bits (cfg : Params) : BitMap := cfg.regs.bits

/-- Every row of a controller map is one number, or four from a multiple of 4 on, in 0..127 (R88). -/
def CcRow.legal (r : CcRow) : Bool :=
  (r.last == r.first || (r.first.toNat % 4 == 0 && r.last == r.first + 3)) && r.last.toNat < 128

/-- The limits the spec puts on the values of the parameters (V5, V14, R67, R88, R246); the sizes are those that the
commands' fields and the index types have. -/
def Params.legal (p : Params) : Bool :=
  p.sizes == ⟨18, 5, 23, 23, 36, 16⟩
    && p.ccmap.all CcRow.legal && decide (p.ccmap.Pairwise (fun r t => r.last < t.first))
    && p.base.toNat ≤ 0xFFFC
    && p.prio2.length == 18 && (List.finRange 18).all (fun c => p.prio2.contains c)
    && p.prio4.length == 6 && p.pairs.toList.all (fun q => p.prio4.contains q.1)
    && p.conv4.length == 6 && (List.finRange 6).all (fun j => p.conv4.contains j)
    && p.conv2.length == 6 && (List.finRange 6).all (fun j => p.conv2.contains j)
    && p.releaseMs.toList.all (fun r => match r with | none => true | some ms => decide (ms < p.durMax))
    && p.ceil0Chz ≤ 4856

/-- FREE VALUE (log 3). The byte the environment answers a bus read with when the model's list of answers has run out;
the argument is the number of free values drawn before (R66: "a byte chosen by the environment"). -/
opaque envByte : Nat → Byte

/-- FREE VALUE (log 4). The smallest release rate over a channel that has no operators, which R245 does not state; the
argument is the number of free values drawn before. -/
opaque slowestOfNone : Nat → BitVec 4

end Sys2Proof.Config
end

