-- ==== Sys2Proof/Machine/Tables.lean ====
section
/-! DEFINITION. The parameter record of CVS with the values that the spec takes (spec/00_scope.md R8). DESIGN CHOICE
(log 8): the parameters marked OPEN stand at the spec's defaults, `CCMAP` among them (D34). -/

namespace Sys2Proof.Machine

open Sys2Proof.Config

/-- The template of a reset patch (R41). -/
def templateDefault : Template :=
  { ar := 11, dr := 1, sl := 5, rr := 7, ws := 0, level := 63, ksl := 0, mult := 1
    trem := 0, vib := 0, sus := 1, ksr := 0, velSens := 32 }

/-- `PATCH_DEFAULT` (R41). -/
def patchDefault : Patch :=
  { ctype := .twoOp, algorithm := 0, out := 0b0011, fb := 0, volume := 63, bendCents := 0
    pedal := false, lfoDelay := 0, op := Vector.replicate 4 templateDefault }

/-- `REGMAP`'s bit positions (R96 to R104). -/
def bitMap : BitMap :=
  { trem := 7, vib := 6, sus := 5, ksr := 4, mult := 0      -- register base 0x20, R96
    ksl := 6, tl := 0                                       -- 0x40, R97
    ar := 4, dr := 0                                        -- 0x60, R98
    sl := 4, rr := 0                                        -- 0x80, R99
    ws := 0                                                 -- 0xE0, R100
    fnumLow := 0                                            -- 0xA0, R101
    keyOn := 5, block := 2, fnumHigh := 0                   -- 0xB0, R102
    out := 4, fb := 1, cnt := 0                             -- 0xC0, R103
    percEnabled := 5, percKey := #v[4, 3, 2, 1, 0]          -- 0:BD, R104
    fourOpMask := 0                                         -- 1:04, R104
    modeEnable := 0                                         -- 1:05, R104
    timerFlagReset := 7, timer1Mask := 6, timer2Mask := 5, timer1Start := 0    -- 0:04, R104
    statusIrq := 7, statusTimer1 := 6, statusTimer2 := 5 }                     -- the status byte, R104

/-- `REGMAP` (R95 to R104). -/
def regMap : RegMap :=
  { opFlags := 0x20, opLevel := 0x40, opAttackDecay := 0x60, opSustainRelease := 0x80, opWave := 0xE0
    chFnumLow := 0xA0, chKeyBlock := 0xB0, chOutput := 0xC0
    percussion := (0, 0xBD), fourOpEnable := (1, 0x04), mode := (1, 0x05), timer1 := (0, 0x02), timerControl := (0, 0x04)
    bits := bitMap }

/-- `NOTE_CHZ` in centihertz, from note -2 to note 129 (the table of R108). -/
def noteTable : List Nat :=
  [728, 772]
    ++ [818, 866, 918, 972, 1030, 1091, 1156, 1225, 1298, 1375, 1457, 1543]
    ++ [1635, 1732, 1835, 1945, 2060, 2183, 2312, 2450, 2596, 2750, 2914, 3087]
    ++ [3270, 3465, 3671, 3889, 4120, 4365, 4625, 4900, 5191, 5500, 5827, 6174]
    ++ [6541, 6930, 7342, 7778, 8241, 8731, 9250, 9800, 10383, 11000, 11654, 12347]
    ++ [13081, 13859, 14683, 15556, 16481, 17461, 18500, 19600, 20765, 22000, 23308, 24694]
    ++ [26163, 27718, 29366, 31113, 32963, 34923, 36999, 39200, 41530, 44000, 46616, 49388]
    ++ [52325, 55437, 58733, 62225, 65926, 69846, 73999, 78399, 83061, 88000, 93233, 98777]
    ++ [104650, 110873, 117466, 124451, 131851, 139691, 147998, 156798, 166122, 176000, 186466, 197553]
    ++ [209300, 221746, 234932, 248902, 263702, 279383, 295996, 313596, 332244, 352000, 372931, 395107]
    ++ [418601, 443492, 469864, 497803, 527404, 558765, 591991, 627193, 664488, 704000, 745862, 790213]
    ++ [837202, 886984, 939727, 995606, 1054808, 1117530, 1183982, 1254385, 1328975, 1408000]

/-- `RELEASE_MS` in milliseconds (the table of R246); rate 0 is "never". -/
def releaseTable : Vector (Option Nat) 16 :=
  #v[none, some 32000, some 19641, some 9821, some 4911, some 2456, some 1228, some 614,
     some 307, some 154, some 77, some 39, some 20, some 10, some 5, some 3]

/-- `CCMAP` (the table of R88). DESIGN CHOICE (log 8): D34 marks the map OPEN, and it stands at the spec's default. -/
def ccTable : List CcRow :=
  [⟨3, 3, .program⟩, ⟨7, 7, .volume⟩, ⟨8, 8, .algorithm⟩, ⟨9, 9, .feedback⟩, ⟨10, 10, .output⟩, ⟨11, 11, .lfoDelay⟩,
   ⟨12, 15, .opAttack⟩, ⟨16, 19, .opDecay⟩, ⟨20, 23, .opSustain⟩, ⟨24, 27, .opRelease⟩, ⟨28, 31, .opWaveform⟩,
   ⟨32, 35, .opLevel⟩, ⟨36, 39, .opKsl⟩, ⟨40, 43, .opMult⟩, ⟨44, 47, .opTremolo⟩, ⟨48, 51, .opVibrato⟩,
   ⟨52, 55, .opSusflag⟩, ⟨56, 59, .opEnvscale⟩, ⟨60, 63, .opVelsens⟩,
   ⟨64, 64, .sustainPedal⟩, ⟨120, 120, .allSoundOff⟩, ⟨123, 123, .allNotesOff⟩]

/-- `physOps` (the table of R92). -/
def channelOperators : Vector (OperId × OperId) 18 :=
  #v[(0, 3), (1, 4), (2, 5), (6, 9), (7, 10), (8, 11), (12, 15), (13, 16), (14, 17),
     (18, 21), (19, 22), (20, 23), (24, 27), (25, 28), (26, 29), (30, 33), (31, 34), (32, 35)]

/-- The parameters of CVS (R8). -/
def cvs : Params :=
  { sizes := { nPhys := 18, nPerc := 5, nLchan := 23, nSlots := 23, nOps := 36, nMidi := 16 }
    invalid := 0xFF, durMax := 32767, lfoMultMs := 32, releaseMs := releaseTable
    ceil0Chz := 4850, fnumDiv := 4971600, fnumMax := 1023, base := 0x388
    pairs := #v[(0, 3), (1, 4), (2, 5), (9, 12), (10, 13), (11, 14)]
    prio2 := [15, 16, 17, 6, 7, 8, 0, 3, 1, 4, 2, 5, 9, 12, 10, 13, 11, 14]
    prio4 := [11, 10, 9, 2, 1, 0]
    conv4 := [5, 4, 3, 2, 1, 0], conv2 := [0, 1, 2, 3, 4, 5]
    noteChz := noteTable, patchDefault := patchDefault, ccmap := ccTable
    chanOps := channelOperators, roleOps := #v[[12, 15], [16], [14], [17], [13]], roleChan := #v[6, 7, 8, 8, 7]
    carriers2 := #v[[1], [0, 1]], carriers4 := #v[[3], [1, 3], [0, 3], [0, 2, 3]]
    regs := regMap, initPrologue := [(regMap.mode, (1 : Byte) <<< bitMap.modeEnable)] }

/-- What a controller number does: `none` for a number that `CCMAP` does not assign (R88). -/
def controllerOf (cfg : Params) (b : Byte) : Option Controller :=
  (cfg.ccmap.find? (fun r => r.first ≤ b && b ≤ r.last)).map (·.name)

/-- The first number of a function's row in `CCMAP` (R88, R112). -/
def controllerNumber (cfg : Params) (n : Controller) : Byte :=
  ((cfg.ccmap.find? (fun r => r.name == n)).map (·.first)).getD 0

end Sys2Proof.Machine
end

