-- ==== Sys2Proof/Machine/State.lean ====
section
/-! DEFINITION. The state of the machine (spec/10_state.md R20 to R50), the environment's part that the model carries
beside it (R31, spec/70_reset_and_hazards.md R308), the machine after reset (R50), and the reasons a step can stop. -/

namespace Sys2Proof.Machine

/-- The block's state (R20), its command port (R45), and the environment the model carries (R31, R308). -/
structure State where
  /-- Types of the physical channels (R21); those of 18..22 are hardwired (`ctypeOf`). -/
  ctype : Vector PhysType 18
  /-- Which LogicalChannels have a handle held (R22). -/
  allocd : Vector Bool 23
  /-- The free 2-op pool, a set of channels (R23). -/
  free2 : Vector Bool 18
  /-- The free 4-op pool, a set of channels, primaries only (R23, log 12). -/
  free4 : Vector Bool 18
  /-- Percussion mode (R26). -/
  percEnabled : Bool
  /-- The key bits of the five roles (R26). -/
  percKey : Vector Bool 5
  /-- The cached 4-op-enable register (R27). -/
  fourOpMask : BitVec 6
  /-- The cached channel registers (R28). -/
  chan : Vector Chan 18
  /-- The cached operator registers (R29). -/
  oper : Vector Oper 36
  /-- The MIDI channels' patches (R40). -/
  patch : Vector Patch 16
  /-- The voice slots (R35). -/
  slot : Vector Slot 23
  /-- `RESULT`: code in bits 15:8, value in bits 7:0 (R45). -/
  result : BitVec 16
  /-- `STATUS.busy` (R45). -/
  busy : Bool
  /-- `CMD`: the command word last written by the host (R45). -/
  cmd : Word
  /-- What the host does next, first element first (R300, R308, log 5). -/
  inputs : List HostInput
  /-- The bytes that answer the next bus reads, first element first (R66, R308, log 3). -/
  reads : List Byte
  /-- The MODEL's own counter of free values drawn (log 3, log 4, log 21). -/
  draws : Nat
  /-- The chip's two address latches (R31 (b)); environment. -/
  latch : Vector Byte 2
  /-- The chip's write-only register file (R31 (a)); environment. Address 256*set + index. -/
  chipRegs : List Host.Cell
  /-- The bus trace, oldest transaction first (R12, R70). -/
  trace : List BusTx
  deriving DecidableEq, Repr

/-- CVS has no fault: "never exceptions or aborts" (R270), so no step ends in one (safe: nothing stops). -/
inductive Fault : Type
  deriving DecidableEq, Repr

/-- Why a step can be refused by the model. -/
inductive Refusal where
  /-- Raised only by an arm of `exec` whose instruction has no meaning yet (safe); no arm of this model raises it. -/
  | notModelled (mnemonic : String)
  deriving DecidableEq, Repr

/-- A channel's cache entry after reset (R28). -/
def chanReset : Chan := { fnum := 0, block := 0, keyOn := 0, out := 0, fb := 0, cnt := 0 }

/-- An operator's cache entry after reset: a silent one (R29). -/
def operReset : Oper :=
  { trem := 0, vib := 0, sus := 0, ksr := 0, mult := 0, ksl := 0, tl := 63, ar := 0, dr := 0, sl := 0, rr := 15, ws := 0 }

/-- An unbound slot (R35): the reset value, and what unbinding writes. -/
def slotReset : Slot :=
  { midiCh := 0, note := 0, velocity := 0, lchan := none, duration := 0, releaseDuration := 0
    releasing := false, sustained := false, lfoTriggered := false }

/-- The machine right after reset under a parameter record (R50), with no host input, no listed read byte and an empty
trace. DESIGN CHOICE: `cmd` (log 1), `latch` (log 2), `draws` (log 21). -/
def State.resetWith (cfg : Config.Params) : State :=
  { ctype := Vector.replicate 18 .twoOp
    allocd := Vector.replicate 23 false
    free2 := Vector.replicate 18 true
    free4 := Vector.replicate 18 false
    percEnabled := false
    percKey := Vector.replicate 5 false
    fourOpMask := 0
    chan := Vector.replicate 18 chanReset
    oper := Vector.replicate 36 operReset
    patch := Vector.replicate 16 cfg.patchDefault
    slot := Vector.replicate 23 slotReset
    result := 0x0000
    busy := false
    cmd := 0
    inputs := []
    reads := []
    draws := 0
    latch := Vector.replicate 2 0
    chipRegs := []
    trace := [] }

/-- The machine right after reset (R50), at the parameters of R8. -/
def State.reset : State := State.resetWith cvs

end Sys2Proof.Machine
end

