-- ==== Sys2Proof/Machine/Memory.lean ====
section
/-! DEFINITION. The chip's register space as a memory (spec/20_memory.md R62, R64): two sets of 256 write-only registers
behind the four ports, held as a list of (address, byte) in one canonical form. It is the environment's (R31): no
command reads it. -/

namespace Sys2Proof.Machine

/-- The address of chip register `s:RR` in the model's list: 256*set + index (R64). -/
def chipAddr (x : SetId) (reg : Byte) : Nat := 256 * x.val + reg.toNat

/-- The byte last written to an address, and `none` where nothing was written: what the chip holds there is unknown to
the block (R31, V2, log 2). -/
def Memory.read (m : List Host.Cell) (a : Nat) : Option Byte := (m.find? (fun p => p.1 == a)).map (·.2)

/-- Write one byte, keeping the addresses rising. -/
def Memory.write : List Host.Cell → Nat → Byte → List Host.Cell
  | [], a, b => [(a, b)]
  | p :: m, a, b =>
    if a < p.1 then (a, b) :: p :: m
    else if a = p.1 then (a, b) :: m
    else p :: Memory.write m a b

/-- The canonical form: addresses strictly rising. No entry can equal what an unlisted address reads as, since that is
no byte at all. -/
abbrev Memory.wf (m : List Host.Cell) : Prop := m.Pairwise (fun p q => p.1 < q.1)

end Sys2Proof.Machine
end

