-- ==== Sys2Proof/Machine/Flags.lean ====
section
/-! DEFINITION. Everything the spec computes bit by bit: the `RESULT` word (spec/60_exceptions.md R271), the voice state
read off a slot's flags (spec/10_state.md R36), the bytes of the chip registers (spec/30_encoding.md R96 to R104) and the
4-op mask bits (R27). CVS has no condition codes (R47). -/

namespace Sys2Proof.Machine

/-- The number of a status code (R271). -/
def Code.byte : Code → Byte
  | .ok => 0
  | .invalidHandle => 1
  | .outOfRange => 2
  | .resourceExhausted => 3
  | .invalidTransition => 4
  | .illegalCommand => 5

/-- The `RESULT` word: code in bits 15:8, value in bits 7:0 (R45). -/
def resultWord (c : Code) (v : Byte) : BitVec 16 := c.byte ++ v

/-- The operator-type codes of GET_OP_TYPE (R91). -/
def OpType.byte : OpType → Byte
  | .null => 0
  | .carrier => 1
  | .modulator => 2

/-- A slot that is not Free (R36). -/
def Slot.bound (k : Slot) : Bool := k.lchan.isSome

/-- The state of a voice, read off its slot (R36): `releasing` dominates `sustained`. -/
def Slot.voice (k : Slot) : VoiceState :=
  if k.lchan.isNone then .free
  else if k.releasing then .releasing
  else if k.sustained then .sustained
  else .playing

/-- A field in a register byte, its lowest bit at bit `pos` (R96 to R104). -/
def atBit {w : Nat} (v : BitVec w) (pos : Nat) : Byte := v.setWidth 8 <<< pos

/-- Register base 0x20: tremolo, vibrato, sustain flag, envelope scaling, multiplier (R96). -/
def Oper.flagsByte (cfg : Config.Params) (o : Oper) : Byte :=
  atBit o.trem cfg.bits.trem ||| atBit o.vib cfg.bits.vib ||| atBit o.sus cfg.bits.sus
    ||| atBit o.ksr cfg.bits.ksr ||| atBit o.mult cfg.bits.mult

/-- Register base 0x40: key-scale level, attenuation (R97). -/
def Oper.levelByte (cfg : Config.Params) (o : Oper) : Byte := atBit o.ksl cfg.bits.ksl ||| atBit o.tl cfg.bits.tl

/-- Register base 0x60: attack rate, decay rate (R98). -/
def Oper.attackDecayByte (cfg : Config.Params) (o : Oper) : Byte := atBit o.ar cfg.bits.ar ||| atBit o.dr cfg.bits.dr

/-- Register base 0x80: sustain level, release rate (R99). -/
def Oper.sustainReleaseByte (cfg : Config.Params) (o : Oper) : Byte :=
  atBit o.sl cfg.bits.sl ||| atBit o.rr cfg.bits.rr

/-- Register base 0xE0: waveform (R100). -/
def Oper.waveByte (cfg : Config.Params) (o : Oper) : Byte := atBit o.ws cfg.bits.ws

/-- Register base 0xA0: the low byte of fnum (R101). -/
def Chan.fnumLowByte (cfg : Config.Params) (c : Chan) : Byte := atBit (c.fnum.extractLsb' 0 8) cfg.bits.fnumLow

/-- Register base 0xB0: key-on, block, the high bits of fnum (R102). -/
def Chan.keyBlockByte (cfg : Config.Params) (c : Chan) : Byte :=
  atBit c.keyOn cfg.bits.keyOn ||| atBit c.block cfg.bits.block ||| atBit (c.fnum.extractLsb' 8 2) cfg.bits.fnumHigh

/-- Register base 0xC0: output routing, feedback, connection (R103). -/
def Chan.outputByte (cfg : Config.Params) (c : Chan) : Byte :=
  atBit c.out cfg.bits.out ||| atBit c.fb cfg.bits.fb ||| atBit c.cnt cfg.bits.cnt

/-- Register 0:BD: percussion enable and the five role keys; every other bit 0 (R104). -/
def percussionByte (cfg : Config.Params) (enabled : Bool) (key : Vector Bool 5) : Byte :=
  atBit (BitVec.ofBool enabled) cfg.bits.percEnabled ||| atBit (BitVec.ofBool key[0]) cfg.bits.percKey[0]
    ||| atBit (BitVec.ofBool key[1]) cfg.bits.percKey[1] ||| atBit (BitVec.ofBool key[2]) cfg.bits.percKey[2]
    ||| atBit (BitVec.ofBool key[3]) cfg.bits.percKey[3] ||| atBit (BitVec.ofBool key[4]) cfg.bits.percKey[4]

/-- Register 1:04: the 4-op mask, every other bit 0 (R104). -/
def fourOpByte (cfg : Config.Params) (mask : BitVec 6) : Byte := atBit mask cfg.bits.fourOpMask

/-- A byte with the one bit `pos` (R104). -/
def oneBit (pos : Nat) : Byte := atBit (1 : BitVec 1) pos

/-- Timer control: both timers masked, 0x60 (R104, R262). -/
def timersMasked (cfg : Config.Params) : Byte := oneBit cfg.bits.timer1Mask ||| oneBit cfg.bits.timer2Mask

/-- Timer control: the status flags cleared, 0x80 (R104, R262). -/
def timerFlagsReset (cfg : Config.Params) : Byte := oneBit cfg.bits.timerFlagReset

/-- Timer control: timer 1 started, timer 2 masked, 0x21 (R104, R262). -/
def timer1Started (cfg : Config.Params) : Byte := oneBit cfg.bits.timer2Mask ||| oneBit cfg.bits.timer1Start

/-- The three flags of the status byte, 0xE0 (R104). -/
def statusFlags (cfg : Config.Params) : Byte :=
  oneBit cfg.bits.statusIrq ||| oneBit cfg.bits.statusTimer1 ||| oneBit cfg.bits.statusTimer2

/-- The status of an expired timer 1, 0xC0 (R104, R262). -/
def statusExpired (cfg : Config.Params) : Byte := oneBit cfg.bits.statusIrq ||| oneBit cfg.bits.statusTimer1

/-- The mask with bit `j` set: pair `j` is a FourOp channel (R27). -/
def maskSet (mask : BitVec 6) (j : PairId) : BitVec 6 := mask ||| ((1 : BitVec 6) <<< j.val)

/-- The mask with bit `j` cleared (R27). -/
def maskClear (mask : BitVec 6) (j : PairId) : BitVec 6 := mask &&& ~~~((1 : BitVec 6) <<< j.val)

end Sys2Proof.Machine
end

