-- ==== Sys2Proof/Machine/Operands.lean ====
section
/-! DEFINITION. The operand forms of the commands and what a handle owns: operand ranges (spec/30_encoding.md R82, R86),
controller scaling (R87), the PROGRAM selector (R89), type codes (R90), operators and channels of a handle (R92 to R94),
register addresses (R105, R106), the bend law and the note frequencies (R107 to R109). -/

namespace Sys2Proof.Machine

/-- The voice slots in ascending order (R170). -/
def allSlots : List SlotId := [0, 1, 2, 3, 4, 5, 6, 7, 8, 9, 10, 11, 12, 13, 14, 15, 16, 17, 18, 19, 20, 21, 22]

/-- The operator indices in ascending order (R92). -/
def allOpIndices : List (Fin 4) := [0, 1, 2, 3]

/-- A MIDI channel operand: legal in 0..15 (R82, R86). -/
def midiChannel (a : Byte) : Option MidiId := if h : a.toNat < 16 then some ⟨a.toNat, h⟩ else none

/-- A note, velocity or controller value: legal in 0..127 (R82, R86). -/
def sevenBit (b : Byte) : Option (BitVec 7) := if b.toNat < 128 then some (b.setWidth 7) else none

/-- A handle operand that names a LogicalChannel: 0..22 (R82). -/
def handleOf (n : Nat) : Option Handle := if h : n < 23 then some ⟨n, h⟩ else none

/-- A controller value scaled to a field of `w` bits (R87). -/
def scaled (w : Nat) (v : BitVec 7) : Nat := v.toNat >>> (7 - w)

/-- The type of a type code as the operand of ALLOC: 0 and 8..255 are out of range (R90, R122). -/
def typeOfCode (a : Byte) : Option ChType :=
  match a.toNat with
  | 1 => some .twoOp
  | 2 => some .fourOp
  | 3 => some .kick
  | 4 => some .snare
  | 5 => some .tomTom
  | 6 => some .cymbal
  | 7 => some .hiHat
  | _ => none

/-- The PROGRAM selector: type and algorithm (R89); 11..127 are out of range. -/
def programOf (v : BitVec 7) : Option (ChType × BitVec 2) :=
  match v.toNat with
  | 0 => some (.twoOp, 0)
  | 1 => some (.twoOp, 1)
  | 2 => some (.fourOp, 0)
  | 3 => some (.fourOp, 1)
  | 4 => some (.fourOp, 2)
  | 5 => some (.fourOp, 3)
  | 6 => some (.kick, 0)
  | 7 => some (.snare, 0)
  | 8 => some (.tomTom, 0)
  | 9 => some (.cymbal, 0)
  | 10 => some (.hiHat, 0)
  | _ => none

/-- What a handle stands for: a physical channel 0..17, or a percussion role 18 + r (R90, R94). -/
def physOrRole (h : Handle) : PhysId ⊕ RoleId :=
  if hh : h.val < 18 then .inl ⟨h.val, hh⟩ else .inr ⟨h.val - 18, by omega⟩

/-- The handle of a physical channel. -/
def physHandle (c : PhysId) : Handle := ⟨c.val, by omega⟩

/-- The handle of a percussion role: 18 + r (R90). -/
def roleHandle (r : RoleId) : Handle := ⟨18 + r.val, by omega⟩

/-- The hardwired type of a percussion role (R21). -/
def roleType (r : RoleId) : ChType :=
  match r with
  | 0 => .kick
  | 1 => .snare
  | 2 => .tomTom
  | 3 => .cymbal
  | 4 => .hiHat

/-- The role of a percussion type: code - 3 (R90). -/
def roleOf : ChType → Option RoleId
  | .null | .twoOp | .fourOp => none
  | .kick => some 0
  | .snare => some 1
  | .tomTom => some 2
  | .cymbal => some 3
  | .hiHat => some 4

/-- A physical channel's type as a channel type (R21). -/
def PhysType.toChType : PhysType → ChType
  | .null => .null
  | .twoOp => .twoOp
  | .fourOp => .fourOp

/-- `ctype[h]`: stored for 0..17, hardwired for 18..22 (R21). -/
def ctypeOf (s : State) (h : Handle) : ChType :=
  match physOrRole h with
  | .inl c => s.ctype[c].toChType
  | .inr r => roleType r

/-- `physChan(h)`: the physical channel whose channel registers a handle uses (R94). -/
def physChan (cfg : Config.Params) (h : Handle) : PhysId :=
  match physOrRole h with
  | .inl c => c
  | .inr r => cfg.roleChan[r]

/-- The secondary of a pair from its primary: `c + 3` (R8, R92). It is asked only of primaries (R21); modulo 18
elsewhere, which no run reaches (log 13). -/
def secondary (c : PhysId) : PhysId := c + 3

/-- `physOps(c)`: the two operators of a physical channel (R92). -/
def physOps (cfg : Config.Params) (c : PhysId) : List OperId := [cfg.chanOps[c].1, cfg.chanOps[c].2]

/-- `opsOf(h)`: the operators of a handle, indexed by the operator index of the commands (R92). -/
def opsOf (cfg : Config.Params) (s : State) (h : Handle) : List OperId :=
  match physOrRole h with
  | .inl c =>
    match s.ctype[c] with
    | .null => []
    | .twoOp => physOps cfg c
    | .fourOp => physOps cfg c ++ physOps cfg (secondary c)
  | .inr r => cfg.roleOps[r]

/-- `opCount(h)` (R93). -/
def opCount (cfg : Config.Params) (s : State) (h : Handle) : Nat := (opsOf cfg s h).length

/-- The operator indices `0 .. opCount(h)-1`, ascending. -/
def opIndices (cfg : Config.Params) (s : State) (h : Handle) : List (Fin 4) :=
  allOpIndices.filter (fun i => i.val < opCount cfg s h)

/-- The operator indices of a handle that are carriers: by the connection bit of a two-operator channel, by the two
connection bits {primary, secondary} of a FourOp channel, the one operator of a single-operator role (R148). -/
def carriers (cfg : Config.Params) (s : State) (h : Handle) : List Nat :=
  match ctypeOf s h with
  | .null => []
  | .twoOp | .kick => cfg.carriers2[s.chan[physChan cfg h].cnt.toFin]
  | .fourOp => cfg.carriers4[(s.chan[physChan cfg h].cnt ++ s.chan[secondary (physChan cfg h)].cnt : BitVec 2).toFin]
  | .snare | .tomTom | .cymbal | .hiHat => [0]

/-- `opType(h, i)` (R148). -/
def opType (cfg : Config.Params) (s : State) (h : Handle) (i : Nat) : OpType :=
  if opCount cfg s h ≤ i then .null
  else if i ∈ carriers cfg s h then .carrier
  else .modulator

/-- `chReg(c, b)`: address set and register index of a channel register (R105). -/
def chReg (c : PhysId) (b : Byte) : SetId × Byte :=
  (if c.val < 9 then 0 else 1, b + BitVec.ofNat 8 (c.val % 9))

/-- `opReg(n, b)`: address set and register index of an operator register, with the two gaps (R106). -/
def opReg (n : OperId) (b : Byte) : SetId × Byte :=
  let o := n.val % 18
  (if n.val < 18 then 0 else 1, b + BitVec.ofNat 8 (o + (if 6 ≤ o then 2 else 0) + (if 12 ≤ o then 2 else 0)))

/-- The bend law: a 14-bit value to cents, both divisions truncating toward zero (R107). -/
def bendLaw (v : Nat) : Int :=
  if v < 8192 then -(((8192 - v) * 200 / 8192 : Nat) : Int) else (((v - 8192) * 200 / 8191 : Nat) : Int)

/-- `NOTE_CHZ[k]` for `k` in -2..129 (R108). -/
def noteChz (cfg : Config.Params) (k : Int) : Nat := cfg.noteChz.getD (k + 2).toNat 0

/-- `NoteFreq(note, cents)`: linear interpolation between neighbouring semitones (R109); `/` and `%` are the floor
division and its remainder. -/
def noteFreq (cfg : Config.Params) (note : BitVec 7) (cents : Int) : Nat :=
  let t : Int := note.toNat * 100 + cents
  let q := t / 100
  let r := (t % 100).toNat
  if r = 0 then noteChz cfg q else noteChz cfg q + (noteChz cfg (q + 1) - noteChz cfg q) * r / 100

/-- `block`: the least exponent whose ceiling exceeds the frequency, 7 when there is none (R129). -/
def freqBlock (cfg : Config.Params) (freq : Nat) : Nat :=
  ((List.range 8).find? (fun b => freq < cfg.ceil0Chz * 2 ^ b)).getD 7

/-- `fnum` for a frequency in centihertz and its block, clamped (R129). -/
def freqNumber (cfg : Config.Params) (freq : Nat) : Nat :=
  min cfg.fnumMax (freq * 2 ^ (20 - freqBlock cfg freq) / cfg.fnumDiv)

/-- Saturation at `DUR_MAX` (R9, R242). -/
def satAdd (cfg : Config.Params) (d : BitVec 15) (delta : BitVec 16) : BitVec 15 :=
  BitVec.ofNat 15 (min cfg.durMax (d.toNat + delta.toNat))

end Sys2Proof.Machine
end

