-- ==== Sys2Proof/Machine/Ops.lean ====
section
/-! DEFINITION. The named operations of the machine: the end of a command and the refusal (spec/60_exceptions.md), the
RegisterBus and the register writes (spec/20_memory.md, spec/30_encoding.md), the allocator's procedures
(spec/40_allocator.md) and the voice manager's (spec/41_voice_events.md). A procedure that a rule may refuse answers
`.error code` and has then changed nothing (R120). CVS takes no exception and returns from none (R275, R276): its one
exceptional outcome is the refusal, `refuse`. -/

namespace Sys2Proof.Machine

/-- The three outcomes of a step of this machine. -/
abbrev Out := Host.Outcome State Fault Refusal

/-! ### The end of a command -/

/-- `RESULT` is written, and with it the command ends: `STATUS.busy` falls (R45). -/
def State.answer (s : State) (c : Code) (v : Byte) : State := { s with result := resultWord c v, busy := false }

/-- A command that is carried out: code OK and its value (R84, R271). -/
def complete (v : Byte) (s : State) : Out := .next (s.answer .ok v)

/-- `refuse(code)`: the command ends with the code and the command's failure value, nothing else changes (R270). -/
def refuse (c : Code) (v : Byte) (s : State) : Out := .next (s.answer c v)

/-- A command the source gives a boolean return: value 1 when carried out, 0 when refused (R84). -/
def replyBool (s : State) : Except Code State → Out
  | .ok t => complete 1 t
  | .error c => refuse c 0 s

/-- What a word with a reserved code does: `refuse(IllegalCommand)`, value 0 (R85). -/
def execReserved (s : State) : Out := refuse .illegalCommand 0 s

/-! ### Updates of one entry -/

/-- Change the cached fields of physical channel `c`. -/
def State.updChan (s : State) (c : PhysId) (f : Chan → Chan) : State := { s with chan := s.chan.set c (f s.chan[c]) }

/-- Change the cached fields of operator `n`. -/
def State.updOper (s : State) (n : OperId) (f : Oper → Oper) : State := { s with oper := s.oper.set n (f s.oper[n]) }

/-- Change the patch of MIDI channel `m`. -/
def State.updPatch (s : State) (m : MidiId) (f : Patch → Patch) : State :=
  { s with patch := s.patch.set m (f s.patch[m]) }

/-- Change voice slot `k`. -/
def State.updSlot (s : State) (k : SlotId) (f : Slot → Slot) : State := { s with slot := s.slot.set k (f s.slot[k]) }

/-- Set or clear `allocd[h]`. -/
def State.setAllocd (s : State) (h : Handle) (b : Bool) : State := { s with allocd := s.allocd.set h b }

/-- Put a channel into `free2` or take it out. -/
def State.setFree2 (s : State) (c : PhysId) (b : Bool) : State := { s with free2 := s.free2.set c b }

/-- Put a channel into `free4` or take it out. -/
def State.setFree4 (s : State) (c : PhysId) (b : Bool) : State := { s with free4 := s.free4.set c b }

/-! ### The RegisterBus -/

/-- `APORT(s) = BASE + 2*s` (R62). -/
def aport (cfg : Config.Params) (x : SetId) : BitVec 16 := cfg.base + BitVec.ofNat 16 (2 * x.val)

/-- `DPORT(s) = BASE + 2*s + 1` (R62). -/
def dport (cfg : Config.Params) (x : SetId) : BitVec 16 := cfg.base + BitVec.ofNat 16 (2 * x.val + 1)

/-- What a bus write does in the chip: an address port takes the register index into its latch, a data port stores the
byte in the register the set's latch selects (R31 (b), R62); any other address is not the chip's. -/
def chipWrite (cfg : Config.Params) (addr : BitVec 16) (data : Byte) (s : State) : State :=
  if addr = aport cfg 0 then { s with latch := s.latch.set 0 data }
  else if addr = aport cfg 1 then { s with latch := s.latch.set 1 data }
  else if addr = dport cfg 0 then { s with chipRegs := Memory.write s.chipRegs (chipAddr 0 s.latch[0]) data }
  else if addr = dport cfg 1 then { s with chipRegs := Memory.write s.chipRegs (chipAddr 1 s.latch[1]) data }
  else s

/-- `BusWrite(addr, data)`: one transaction, appended to the trace (R11, R61). -/
def busWrite (cfg : Config.Params) (addr : BitVec 16) (data : Byte) (s : State) : State :=
  chipWrite cfg addr data { s with trace := s.trace ++ [.write addr data] }

/-- `BusRead(addr)`: one transaction that returns a byte of the environment's choice (R66): the next listed one, and a
free value when none is listed (log 3). -/
def busRead (addr : BitVec 16) (s : State) : Byte × State :=
  match s.reads with
  | b :: rest => (b, { s with reads := rest, trace := s.trace ++ [.read addr b] })
  | [] =>
    let b := Config.envByte s.draws
    (b, { s with draws := s.draws + 1, trace := s.trace ++ [.read addr b] })

/-- `RegWrite(s, reg, val)`: select, then data, both always performed (R63). -/
def regWrite (cfg : Config.Params) (x : SetId) (reg val : Byte) (s : State) : State :=
  busWrite cfg (dport cfg x) val (busWrite cfg (aport cfg x) reg s)

/-- A register write at a computed register address (R105, R106). -/
def regWriteAt (cfg : Config.Params) (r : SetId × Byte) (val : Byte) (s : State) : State := regWrite cfg r.1 r.2 val s

/-- `W20(n)` (R96). -/
def w20 (cfg : Config.Params) (n : OperId) (s : State) : State :=
  regWriteAt cfg (opReg n cfg.regs.opFlags) (s.oper[n].flagsByte cfg) s

/-- `W40(n)` (R97). -/
def w40 (cfg : Config.Params) (n : OperId) (s : State) : State :=
  regWriteAt cfg (opReg n cfg.regs.opLevel) (s.oper[n].levelByte cfg) s

/-- `W60(n)` (R98). -/
def w60 (cfg : Config.Params) (n : OperId) (s : State) : State :=
  regWriteAt cfg (opReg n cfg.regs.opAttackDecay) (s.oper[n].attackDecayByte cfg) s

/-- `W80(n)` (R99). -/
def w80 (cfg : Config.Params) (n : OperId) (s : State) : State :=
  regWriteAt cfg (opReg n cfg.regs.opSustainRelease) (s.oper[n].sustainReleaseByte cfg) s

/-- `WE0(n)` (R100). -/
def wE0 (cfg : Config.Params) (n : OperId) (s : State) : State :=
  regWriteAt cfg (opReg n cfg.regs.opWave) (s.oper[n].waveByte cfg) s

/-- `WA0(c)` (R101). -/
def wA0 (cfg : Config.Params) (c : PhysId) (s : State) : State :=
  regWriteAt cfg (chReg c cfg.regs.chFnumLow) (s.chan[c].fnumLowByte cfg) s

/-- `WB0(c)` (R102). -/
def wB0 (cfg : Config.Params) (c : PhysId) (s : State) : State :=
  regWriteAt cfg (chReg c cfg.regs.chKeyBlock) (s.chan[c].keyBlockByte cfg) s

/-- `WC0(c)` (R103). -/
def wC0 (cfg : Config.Params) (c : PhysId) (s : State) : State :=
  regWriteAt cfg (chReg c cfg.regs.chOutput) (s.chan[c].outputByte cfg) s

/-- `WBD()` (R104). -/
def wBD (cfg : Config.Params) (s : State) : State :=
  regWriteAt cfg cfg.regs.percussion (percussionByte cfg s.percEnabled s.percKey) s

/-- `W104()` (R104). -/
def w104 (cfg : Config.Params) (s : State) : State :=
  regWriteAt cfg cfg.regs.fourOpEnable (fourOpByte cfg s.fourOpMask) s

/-! ### Allocation (R122 to R126) -/

/-- ALLOC of TwoOp: the pool, else the first pair in `CONV2` order whose primary is in `free4` is split (R123). -/
def allocTwoOp (cfg : Config.Params) (s : State) : Except Code (Handle × State) :=
  match cfg.prio2.find? (fun c => s.free2[c]) with
  | some c => .ok (physHandle c, (s.setFree2 c false).setAllocd (physHandle c) true)
  | none =>
    match cfg.conv2.find? (fun j => s.free4[cfg.pairs[j].1]) with
    | some j =>
      let c := cfg.pairs[j].1
      let d := cfg.pairs[j].2
      let s1 := s.setFree4 c false
      let s2 := { s1 with
        ctype := (s1.ctype.set c .twoOp).set d .twoOp
        fourOpMask := maskClear s1.fourOpMask j }
      let s3 := w104 cfg s2
      .ok (physHandle c, (s3.setAllocd (physHandle c) true).setFree2 d true)
    | none => .error .resourceExhausted

/-- ALLOC of FourOp: the pool, else the first pair in `CONV4` order with both halves in `free2` is merged (R124). -/
def allocFourOp (cfg : Config.Params) (s : State) : Except Code (Handle × State) :=
  match cfg.prio4.find? (fun c => s.free4[c]) with
  | some c => .ok (physHandle c, (s.setFree4 c false).setAllocd (physHandle c) true)
  | none =>
    match cfg.conv4.find? (fun j => s.free2[cfg.pairs[j].1] && s.free2[cfg.pairs[j].2]) with
    | some j =>
      let c := cfg.pairs[j].1
      let d := cfg.pairs[j].2
      let s1 := (s.setFree2 c false).setFree2 d false
      let s2 := { s1 with
        ctype := (s1.ctype.set c .fourOp).set d .null
        fourOpMask := maskSet s1.fourOpMask j }
      let s3 := w104 cfg s2
      .ok (physHandle c, s3.setAllocd (physHandle c) true)
    | none => .error .resourceExhausted

/-- ALLOC of a percussion role: only while the mode is on and the role is not held (R125). -/
def allocRole (r : RoleId) (s : State) : Except Code (Handle × State) :=
  if !s.percEnabled then .error .invalidTransition
  else if s.allocd[roleHandle r] then .error .resourceExhausted
  else .ok (roleHandle r, s.setAllocd (roleHandle r) true)

/-- `Alloc(type)` (R122). -/
def allocate (cfg : Config.Params) (t : ChType) (s : State) : Except Code (Handle × State) :=
  match t with
  | .null => .error .outOfRange
  | .twoOp => allocTwoOp cfg s
  | .fourOp => allocFourOp cfg s
  | .kick => allocRole 0 s
  | .snare => allocRole 1 s
  | .tomTom => allocRole 2 s
  | .cymbal => allocRole 3 s
  | .hiHat => allocRole 4 s

/-- A handle goes back to its type's pool; a percussion role joins none (R126). -/
def toPool (h : Handle) (s : State) : State :=
  match physOrRole h with
  | .inl c =>
    match s.ctype[c] with
    | .null => s
    | .twoOp => s.setFree2 c true
    | .fourOp => s.setFree4 c true
  | .inr _ => s

/-- `Free(h)` (R126). -/
def freeHandle (h : Handle) (s : State) : Except Code State :=
  if s.allocd[h] then .ok (toPool h (s.setAllocd h false)) else .error .invalidHandle

/-! ### Key, frequency and field setters (R129 to R147) -/

/-- Write the key bit of a handle: the channel's in its 0xB0 register, a role's in 0:BD (R130). -/
def writeKey (cfg : Config.Params) (on : Bool) (h : Handle) (s : State) : State :=
  match physOrRole h with
  | .inl c => wB0 cfg c (s.updChan c (fun x => { x with keyOn := BitVec.ofBool on }))
  | .inr r => wBD cfg { s with percKey := s.percKey.set r on }

/-- `KeyOn(h)` and `KeyOff(h)` (R130, R131). -/
def setKey (cfg : Config.Params) (on : Bool) (h : Handle) (s : State) : Except Code State :=
  if s.allocd[h] then .ok (writeKey cfg on h s) else .error .invalidHandle

/-- Write block and fnum of a physical channel: `WA0`, then `WB0` with the cached key bit (R129). -/
def writeFreq (cfg : Config.Params) (c : PhysId) (freq : Nat) (s : State) : State :=
  wB0 cfg c (wA0 cfg c (s.updChan c (fun x =>
    { x with fnum := BitVec.ofNat 10 (freqNumber cfg freq), block := BitVec.ofNat 3 (freqBlock cfg freq) })))

/-- `SetFreq(h, centihertz)` (R129). -/
def setFreq (cfg : Config.Params) (h : Handle) (freq : Nat) (s : State) : Except Code State :=
  if s.allocd[h] then .ok (writeFreq cfg (physChan cfg h) freq s) else .error .invalidHandle

/-- The operator fields that the twelve SET_OP_* commands set (R133 to R144). -/
inductive OpField where
  | ar | dr | sl | rr | ws | tl | ksl | mult | trem | vib | sus | ksr
  deriving DecidableEq, Repr

/-- The width of an operator field in bits (R29, R133 to R144). -/
def OpField.width : OpField → Nat
  | .ar | .dr | .sl | .rr | .mult => 4
  | .ws => 3
  | .tl => 6
  | .ksl => 2
  | .trem | .vib | .sus | .ksr => 1

/-- The named field of an operator takes a value (R132). -/
def OpField.put (f : OpField) (v : Nat) (o : Oper) : Oper :=
  match f with
  | .ar => { o with ar := BitVec.ofNat 4 v }
  | .dr => { o with dr := BitVec.ofNat 4 v }
  | .sl => { o with sl := BitVec.ofNat 4 v }
  | .rr => { o with rr := BitVec.ofNat 4 v }
  | .ws => { o with ws := BitVec.ofNat 3 v }
  | .tl => { o with tl := BitVec.ofNat 6 v }
  | .ksl => { o with ksl := BitVec.ofNat 2 v }
  | .mult => { o with mult := BitVec.ofNat 4 v }
  | .trem => { o with trem := BitVec.ofNat 1 v }
  | .vib => { o with vib := BitVec.ofNat 1 v }
  | .sus => { o with sus := BitVec.ofNat 1 v }
  | .ksr => { o with ksr := BitVec.ofNat 1 v }

/-- The register write of the one register that holds a field (R133 to R144). -/
def OpField.write (cfg : Config.Params) (f : OpField) (n : OperId) (s : State) : State :=
  match f with
  | .ar | .dr => w60 cfg n s
  | .sl | .rr => w80 cfg n s
  | .ws => wE0 cfg n s
  | .tl | .ksl => w40 cfg n s
  | .mult | .trem | .vib | .sus | .ksr => w20 cfg n s

/-- `SetOp*(h, i, v)`: the tests of R132 in their order, then the field and its register. -/
def setOp (cfg : Config.Params) (f : OpField) (h : Handle) (i v : Nat) (s : State) : Except Code State :=
  if s.allocd[h] then
    match (opsOf cfg s h)[i]? with
    | none => .error .outOfRange
    | some n => if v < 2 ^ f.width then .ok (f.write cfg n (s.updOper n (f.put v))) else .error .outOfRange
  else .error .invalidHandle

/-- `SetOutput(h, v)`: both halves of a FourOp channel carry the routing (R145). -/
def setOutput (cfg : Config.Params) (h : Handle) (v : Nat) (s : State) : Except Code State :=
  if s.allocd[h] then
    if v < 16 then
      let c := physChan cfg h
      let s1 := wC0 cfg c (s.updChan c (fun x => { x with out := BitVec.ofNat 4 v }))
      if ctypeOf s h = .fourOp then
        .ok (wC0 cfg (secondary c) (s1.updChan (secondary c) (fun x => { x with out := BitVec.ofNat 4 v })))
      else .ok s1
    else .error .outOfRange
  else .error .invalidHandle

/-- A percussion role with one operator (R93). -/
def ChType.singleOp : ChType → Bool
  | .snare | .tomTom | .cymbal | .hiHat => true
  | .null | .twoOp | .fourOp | .kick => false

/-- `SetFeedback(h, v)`: the primary's register only (R146). -/
def setFeedback (cfg : Config.Params) (h : Handle) (v : Nat) (s : State) : Except Code State :=
  if s.allocd[h] then
    if (ctypeOf s h).singleOp || 8 ≤ v then .error .outOfRange
    else .ok (wC0 cfg (physChan cfg h) (s.updChan (physChan cfg h) (fun x => { x with fb := BitVec.ofNat 3 v })))
  else .error .invalidHandle

/-- `SetAlgorithm(h, v)`, by the channel's type (R147). A Null channel is never allocated (R22). -/
def setAlgorithm (cfg : Config.Params) (h : Handle) (v : Nat) (s : State) : Except Code State :=
  if s.allocd[h] then
    let c := physChan cfg h
    match ctypeOf s h with
    | .twoOp | .kick =>
      if v < 2 then .ok (wC0 cfg c (s.updChan c (fun x => { x with cnt := BitVec.ofNat 1 v }))) else .error .outOfRange
    | .fourOp =>
      if v < 4 then
        let s1 := wC0 cfg c (s.updChan c (fun x => { x with cnt := BitVec.ofNat 1 (v / 2) }))
        .ok (wC0 cfg (secondary c) (s1.updChan (secondary c) (fun x => { x with cnt := BitVec.ofNat 1 v })))
      else .error .outOfRange
    | .null | .snare | .tomTom | .cymbal | .hiHat => .error .outOfRange
  else .error .invalidHandle

/-! ### Procedures of the voice manager (R170 to R178) -/

/-- A procedure call inside a voice-manager command: a call that the allocator refuses is skipped (R200, R311). -/
def attempt (call : State → Except Code State) (s : State) : State :=
  match call s with
  | .ok t => t
  | .error _ => s

/-- Visit every bound voice that `sel` selects, in ascending slot order, each completely before the next, selected at
the time of its visit (R170). `body` gets the slot, its handle and the state, and answers the new state and what the
visit adds to the command's count. -/
def visitVoices (sel : Slot → Bool) (body : SlotId → Handle → State → State × Nat) (s : State) : State × Nat :=
  allSlots.foldl (fun acc k =>
    match acc.1.slot[k].lchan with
    | none => acc
    | some h =>
      if sel acc.1.slot[k] then
        let r := body k h acc.1
        (r.1, acc.2 + r.2)
      else acc) (s, 0)

/-- The voices of MIDI channel `m` (R170). -/
def ofChannel (m : MidiId) (k : Slot) : Bool := k.midiCh == m

/-- Do something for every operator index of a handle, ascending. -/
def forOpIndices (cfg : Config.Params) (h : Handle) (body : Fin 4 → State → State) (s : State) : State :=
  (opIndices cfg s h).foldl (fun t i => body i t) s

/-- `Atten(k, i)` for the voice in slot `k` on handle `h` (R175). -/
def atten (cfg : Config.Params) (s : State) (k : SlotId) (h : Handle) (i : Fin 4) : Nat :=
  let P := s.patch[s.slot[k].midiCh]
  let T := P.op[i]
  let range := T.level.toNat * T.velSens.toNat / 63
  let base := T.level.toNat - range
  let contrib := s.slot[k].velocity.toNat / 2 * range / 63
  let level := base + contrib
  let level := if opType cfg s h i = .carrier then level * P.volume.toNat / 63 else level
  63 - level

/-- Write the computed attenuation of one operator of a voice (R202, R203, R213, R220). -/
def setAtten (cfg : Config.Params) (k : SlotId) (h : Handle) (i : Fin 4) (s : State) : State :=
  attempt (setOp cfg .tl h i (atten cfg s k h i)) s

/-- `ProgramChannel(h, P)` (R173). -/
def programChannel (cfg : Config.Params) (h : Handle) (P : Patch) (s : State) : State :=
  let c := physChan cfg h
  match ctypeOf s h with
  | .null => s
  | .twoOp | .kick =>
    wC0 cfg c (s.updChan c (fun x => { x with out := P.out, fb := P.fb, cnt := P.algorithm.extractLsb' 0 1 }))
  | .fourOp =>
    let s1 := s.updChan c (fun x => { x with out := P.out, fb := P.fb, cnt := P.algorithm.extractLsb' 1 1 })
    let s2 := s1.updChan (secondary c) (fun x => { x with out := P.out, cnt := P.algorithm.extractLsb' 0 1 })
    wC0 cfg (secondary c) (wC0 cfg c s2)
  | .snare | .tomTom | .cymbal | .hiHat => wC0 cfg c (s.updChan c (fun x => { x with out := P.out }))

/-- The fields that `ProgramOperator` gives an operator from its template: the modulation flags 0 (R174). -/
def operOfTemplate (T : Template) (tl : Nat) : Oper :=
  { trem := 0, vib := 0, sus := T.sus, ksr := T.ksr, mult := T.mult, ksl := T.ksl, tl := BitVec.ofNat 6 tl
    ar := T.ar, dr := T.dr, sl := T.sl, rr := T.rr, ws := T.ws }

/-- `ProgramOperator(k, i)` of the voice in slot `k` on handle `h`: five register writes (R174). -/
def programOperator (cfg : Config.Params) (k : SlotId) (h : Handle) (i : Fin 4) (s : State) : State :=
  match (opsOf cfg s h)[i.val]? with
  | none => s
  | some n =>
    let T := s.patch[s.slot[k].midiCh].op[i]
    let s1 := s.updOper n (fun _ => operOfTemplate T (atten cfg s k h i))
    wE0 cfg n (w80 cfg n (w60 cfg n (w40 cfg n (w20 cfg n s1))))

/-- A slot is unbound: `lchan` invalid, every other field 0 (R35). -/
def unbind (k : SlotId) (s : State) : State := s.updSlot k (fun _ => slotReset)

/-- `ForceSilence(k)` of the voice in slot `k` on handle `h` (R176). -/
def forceSilence (cfg : Config.Params) (k : SlotId) (h : Handle) (s : State) : State :=
  let s1 := attempt (setKey cfg false h) s
  let s2 := forOpIndices cfg h (fun i t => attempt (setOp cfg .rr h i 15) (attempt (setOp cfg .tl h i 63) t)) s1
  let s3 := attempt (setFreq cfg h 0) s2
  let s4 := attempt (freeHandle h) s3
  unbind k s4

/-- `Release(k)` (R177). -/
def releaseVoice (cfg : Config.Params) (k : SlotId) (h : Handle) (s : State) : State :=
  (attempt (setKey cfg false h) s).updSlot k (fun x => { x with releasing := true, sustained := false })

/-- `StopVoice(k)` (R177). -/
def stopVoice (cfg : Config.Params) (k : SlotId) (h : Handle) (s : State) : State :=
  if s.patch[s.slot[k].midiCh].pedal then s.updSlot k (fun x => { x with sustained := true })
  else releaseVoice cfg k h s

/-- The lowest-indexed Free slot (R172 step 2). -/
def firstFree (s : State) : Option SlotId := allSlots.find? (fun k => s.slot[k].lchan.isNone)

/-- The steal's victim: the lowest-indexed bound slot with `releasing = 1` (R178). -/
def firstReleasing (s : State) : Option SlotId :=
  allSlots.find? (fun k => s.slot[k].lchan.isSome && s.slot[k].releasing)

/-- The steal: the victim's handle is freed, without silencing it, and its slot unbound (R178). -/
def stealVoice (v : SlotId) (s : State) : State :=
  match s.slot[v].lchan with
  | none => s
  | some h => unbind v (attempt (freeHandle h) s)

/-- Step (3) of NOTE_ON: `Alloc`, and on failure one steal and one retry; a steal that was made is kept (R172, R178). -/
def allocOrSteal (cfg : Config.Params) (t : ChType) (s : State) : Option Handle × State :=
  match allocate cfg t s with
  | .ok (h, s1) => (some h, s1)
  | .error _ =>
    match firstReleasing s with
    | none => (none, s)
    | some v =>
      match allocate cfg t (stealVoice v s) with
      | .ok (h, s1) => (some h, s1)
      | .error _ => (none, stealVoice v s)

/-- A slot bound to a note: counters and flags 0 (R172 step 4). -/
def boundSlot (m : MidiId) (note vel : BitVec 7) (h : Handle) : Slot :=
  { midiCh := m, note := note, velocity := vel, lchan := some h, duration := 0, releaseDuration := 0
    releasing := false, sustained := false, lfoTriggered := false }

/-- Steps (4) to (8) of NOTE_ON (R172). -/
def startVoice (cfg : Config.Params) (k : SlotId) (m : MidiId) (note vel : BitVec 7) (h : Handle) (s : State) : State :=
  let s1 := s.updSlot k (fun _ => boundSlot m note vel h)
  let s2 := programChannel cfg h s1.patch[m] s1
  let s3 := forOpIndices cfg h (fun i t => programOperator cfg k h i t) s2
  let s4 := attempt (setFreq cfg h (noteFreq cfg note s3.patch[m].bendCents.toInt)) s3
  attempt (setKey cfg true h) s4

/-! ### Reset -/

/-- Every element of the block's state takes its reset value; the environment, the host's inputs and `CMD` stay
(R50, R261 step 1, R301, log 7). -/
def State.resetBlock (cfg : Config.Params) (s : State) : State :=
  { State.resetWith cfg with
    cmd := s.cmd, inputs := s.inputs, reads := s.reads, draws := s.draws
    latch := s.latch, chipRegs := s.chipRegs, trace := s.trace }

/-- One transaction, seen from the environment. -/
def BusTx.apply (cfg : Config.Params) (s : State) : BusTx → State
  | .write addr data => busWrite cfg addr data s
  | .read addr data => { s with reads := s.reads.drop 1, trace := s.trace ++ [.read addr data] }

/-- The reset event that cuts a command short after `n` of its bus transactions (R301). `t` is where the command would
have ended: its first `n` transactions have happened, and the block's state is the reset state. -/
def State.cutByReset (cfg : Config.Params) (s t : State) (n : Nat) : State :=
  let sent := (t.trace.drop s.trace.length).take n
  { (sent.foldl (BusTx.apply cfg) s).resetBlock cfg with draws := t.draws }

end Sys2Proof.Machine
end

