-- ==== Sys2Proof/Machine/Allocator.lean ====
section
/-! DEFINITION. The commands of the ChannelAllocator (spec/40_allocator.md R122 to R149): allocation, percussion mode,
frequency and key, the operator and channel setters, and the two queries. -/

namespace Sys2Proof.Machine

/-- A command on a handle operand `n`: a number above 22 is no handle (R121); a handle that is not allocated is refused
by the procedure itself. -/
def withHandle (n : Nat) (call : Handle → State → Except Code State) (s : State) : Out :=
  match handleOf n with
  | none => refuse .invalidHandle 0 s
  | some h => replyBool s (call h s)

/-- ALLOC: the value is the handle, and `INVALID` on any refusal (R122). -/
def execAlloc (a : Byte) (s : State) (cfg : Config.Params := cvs) : Out :=
  match typeOfCode a with
  | none => refuse .outOfRange cfg.invalid s
  | some t =>
    match allocate cfg t s with
    | .ok (h, s1) => complete (BitVec.ofNat 8 h.val) s1
    | .error c => refuse c cfg.invalid s

/-- FREE (R126). -/
def execFree (a : Byte) (s : State) : Out := withHandle a.toNat freeHandle s

/-- PERC_ENABLE (R127). -/
def execPercEnable (s : State) (cfg : Config.Params := cvs) : Out :=
  if s.percEnabled || !(s.free2[6] && s.free2[7] && s.free2[8]) then refuse .invalidTransition 0 s
  else
    let s1 := ((s.setFree2 6 false).setFree2 7 false).setFree2 8 false
    complete 1 (wBD cfg { s1 with percEnabled := true })

/-- PERC_DISABLE: percussion handles that are held stay held (R128, R312). -/
def execPercDisable (s : State) (cfg : Config.Params := cvs) : Out :=
  if !s.percEnabled || s.percKey.toList.any id then refuse .invalidTransition 0 s
  else
    let s1 := { s with percEnabled := false }
    complete 1 (wBD cfg (((s1.setFree2 6 true).setFree2 7 true).setFree2 8 true))

/-- SET_FREQ (R129). -/
def execSetFreq (h : BitVec 5) (freq : BitVec 26) (s : State) (cfg : Config.Params := cvs) : Out :=
  withHandle h.toNat (fun g => setFreq cfg g freq.toNat) s

/-- KEY_ON (R130). -/
def execKeyOn (a : Byte) (s : State) (cfg : Config.Params := cvs) : Out := withHandle a.toNat (setKey cfg true) s

/-- KEY_OFF (R131). -/
def execKeyOff (a : Byte) (s : State) (cfg : Config.Params := cvs) : Out := withHandle a.toNat (setKey cfg false) s

/-- The common rule of the twelve SET_OP_* commands (R132). -/
def setOpCommand (cfg : Config.Params) (f : OpField) (a b c : Byte) (s : State) : Out :=
  withHandle a.toNat (fun h => setOp cfg f h b.toNat c.toNat) s

/-- SET_OP_ATTACK (R133). -/
def execSetOpAttack (a b c : Byte) (s : State) (cfg : Config.Params := cvs) : Out := setOpCommand cfg .ar a b c s

/-- SET_OP_DECAY (R134). -/
def execSetOpDecay (a b c : Byte) (s : State) (cfg : Config.Params := cvs) : Out := setOpCommand cfg .dr a b c s

/-- SET_OP_SUSTAIN (R135). -/
def execSetOpSustain (a b c : Byte) (s : State) (cfg : Config.Params := cvs) : Out := setOpCommand cfg .sl a b c s

/-- SET_OP_RELEASE (R136). -/
def execSetOpRelease (a b c : Byte) (s : State) (cfg : Config.Params := cvs) : Out := setOpCommand cfg .rr a b c s

/-- SET_OP_WAVEFORM (R137). -/
def execSetOpWaveform (a b c : Byte) (s : State) (cfg : Config.Params := cvs) : Out := setOpCommand cfg .ws a b c s

/-- SET_OP_ATTENUATION (R138). -/
def execSetOpAttenuation (a b c : Byte) (s : State) (cfg : Config.Params := cvs) : Out := setOpCommand cfg .tl a b c s

/-- SET_OP_KSL (R139). -/
def execSetOpKsl (a b c : Byte) (s : State) (cfg : Config.Params := cvs) : Out := setOpCommand cfg .ksl a b c s

/-- SET_OP_MULT (R140). -/
def execSetOpMult (a b c : Byte) (s : State) (cfg : Config.Params := cvs) : Out := setOpCommand cfg .mult a b c s

/-- SET_OP_TREMOLO (R141). -/
def execSetOpTremolo (a b c : Byte) (s : State) (cfg : Config.Params := cvs) : Out := setOpCommand cfg .trem a b c s

/-- SET_OP_VIBRATO (R142). -/
def execSetOpVibrato (a b c : Byte) (s : State) (cfg : Config.Params := cvs) : Out := setOpCommand cfg .vib a b c s

/-- SET_OP_SUSFLAG (R143). -/
def execSetOpSusflag (a b c : Byte) (s : State) (cfg : Config.Params := cvs) : Out := setOpCommand cfg .sus a b c s

/-- SET_OP_ENVSCALE (R144). -/
def execSetOpEnvscale (a b c : Byte) (s : State) (cfg : Config.Params := cvs) : Out := setOpCommand cfg .ksr a b c s

/-- SET_OUTPUT (R145). -/
def execSetOutput (a c : Byte) (s : State) (cfg : Config.Params := cvs) : Out :=
  withHandle a.toNat (fun h => setOutput cfg h c.toNat) s

/-- SET_FEEDBACK (R146). -/
def execSetFeedback (a c : Byte) (s : State) (cfg : Config.Params := cvs) : Out :=
  withHandle a.toNat (fun h => setFeedback cfg h c.toNat) s

/-- SET_ALGORITHM (R147). -/
def execSetAlgorithm (a c : Byte) (s : State) (cfg : Config.Params := cvs) : Out :=
  withHandle a.toNat (fun h => setAlgorithm cfg h c.toNat) s

/-- GET_OP_TYPE: the handle need not be allocated (R148). -/
def execGetOpType (a b : Byte) (s : State) (cfg : Config.Params := cvs) : Out :=
  match handleOf a.toNat with
  | none => refuse .invalidHandle 0 s
  | some h => complete (opType cfg s h b.toNat).byte s

/-- GET_OP_COUNT: the handle need not be allocated (R149). -/
def execGetOpCount (a : Byte) (s : State) (cfg : Config.Params := cvs) : Out :=
  match handleOf a.toNat with
  | none => refuse .invalidHandle 0 s
  | some h => complete (BitVec.ofNat 8 (opCount cfg s h)) s

end Sys2Proof.Machine
end

