-- ==== Sys2Proof/Machine/Controllers.lean ====
section
/-! DEFINITION. The CTRL command, one definition per controller (spec/42_controllers.md R200 to R225). -/

namespace Sys2Proof.Machine

/-- The frame of every controller: channel and value in range, else OutOfRange (the number of a refining row always is);
then the controller's own tests and effect; `RESULT = {OK, 0}` or `{code, 0}` (R200). -/
def ctrlCommand (a c : Byte) (body : MidiId → BitVec 7 → State → Except Code State) (s : State) : Out :=
  match midiChannel a, sevenBit c with
  | some m, some v =>
    match body m v s with
    | .ok t => complete 0 t
    | .error e => refuse e 0 s
  | _, _ => refuse .outOfRange 0 s

/-- Step (b) of a controller: a procedure for every bound voice of the channel (R200). -/
def forVoices (m : MidiId) (body : SlotId → Handle → State → State) (s : State) : State :=
  (visitVoices (ofChannel m) (fun k h t => (body k h t, 0)) s).1

/-! ### Channel-level controllers -/

/-- CTRL.PROGRAM: silence every voice of the channel, then type and algorithm (R201). -/
def execCtrlProgram (a c : Byte) (s : State) (cfg : Config.Params := cvs) : Out :=
  ctrlCommand a c (fun m v s =>
    match programOf v with
    | none => .error .outOfRange
    | some (t, alg) =>
      .ok ((forVoices m (forceSilence cfg) s).updPatch m (fun P => { P with ctype := t, algorithm := alg }))) s

/-- CTRL.VOLUME: only carriers are rewritten (R202). -/
def execCtrlVolume (a c : Byte) (s : State) (cfg : Config.Params := cvs) : Out :=
  ctrlCommand a c (fun m v s =>
    .ok (forVoices m
      (fun k h t => forOpIndices cfg h (fun i u => if opType cfg u h i.val = .carrier then setAtten cfg k h i u else u) t)
      (s.updPatch m (fun P => { P with volume := BitVec.ofNat 6 (scaled 6 v) })))) s

/-- The algorithm that a value selects for a patch type; the single-operator roles have none (R203). -/
def algorithmOf (t : ChType) (v : BitVec 7) : Option Nat :=
  match t with
  | .twoOp | .kick => some (scaled 1 v)
  | .fourOp => some (scaled 2 v)
  | .null | .snare | .tomTom | .cymbal | .hiHat => none

/-- CTRL.ALGORITHM: the connection bits, then every attenuation of the voice (R203). -/
def execCtrlAlgorithm (a c : Byte) (s : State) (cfg : Config.Params := cvs) : Out :=
  ctrlCommand a c (fun m v s =>
    match algorithmOf s.patch[m].ctype v with
    | none => .error .outOfRange
    | some alg =>
      .ok (forVoices m
        (fun k h t => forOpIndices cfg h (fun i u => setAtten cfg k h i u) (attempt (setAlgorithm cfg h alg) t))
        (s.updPatch m (fun P => { P with algorithm := BitVec.ofNat 2 alg })))) s

/-- CTRL.FEEDBACK: skipped for a voice on a single-operator role (R204). -/
def execCtrlFeedback (a c : Byte) (s : State) (cfg : Config.Params := cvs) : Out :=
  ctrlCommand a c (fun m v s =>
    .ok (forVoices m (fun _ h t => attempt (setFeedback cfg h t.patch[m].fb.toNat) t)
      (s.updPatch m (fun P => { P with fb := BitVec.ofNat 3 (scaled 3 v) })))) s

/-- CTRL.OUTPUT (R205). -/
def execCtrlOutput (a c : Byte) (s : State) (cfg : Config.Params := cvs) : Out :=
  ctrlCommand a c (fun m v s =>
    .ok (forVoices m (fun _ h t => attempt (setOutput cfg h t.patch[m].out.toNat) t)
      (s.updPatch m (fun P => { P with out := BitVec.ofNat 4 (scaled 4 v) })))) s

/-- CTRL.LFO_DELAY: the patch only, unscaled (R206). -/
def execCtrlLfoDelay (a c : Byte) (s : State) : Out :=
  ctrlCommand a c (fun m v s => .ok (s.updPatch m (fun P => { P with lfoDelay := v }))) s

/-! ### Per-operator controllers -/

/-- What step (b) of an operator-field controller does for a voice (R207 to R220): a setter, the recomputed attenuation,
or a setter only once the voice's LFO is triggered. -/
inductive OpApply where
  | setter (f : OpField)
  | attenuation
  | gated (f : OpField)
  deriving DecidableEq, Repr

/-- Step (b) of an operator-field controller for the voice in slot `k` (R207 to R220). -/
def OpApply.run (cfg : Config.Params) (how : OpApply) (i : Fin 4) (v : Nat) (k : SlotId) (h : Handle) (s : State) : State :=
  if i.val < opCount cfg s h then
    match how with
    | .setter f => attempt (setOp cfg f h i.val v) s
    | .attenuation => setAtten cfg k h i s
    | .gated f => if s.slot[k].lfoTriggered then attempt (setOp cfg f h i.val v) s else s
  else s

/-- The common rule of the thirteen operator-field controllers: the template field of width `w` takes the scaled value
by `put`, then step (b) (R207). -/
def opCtrl (cfg : Config.Params) (w : Nat) (put : Nat → Template → Template) (how : OpApply)
    (a : Byte) (i : BitVec 2) (c : Byte) (s : State) : Out :=
  ctrlCommand a c (fun m v s =>
    .ok (forVoices m (how.run cfg i.toFin (scaled w v))
      (s.updPatch m (fun q => { q with op := q.op.set i.toFin (put (scaled w v) q.op[i.toFin]) })))) s

/-- CTRL.OP_ATTACK (R208). -/
def execCtrlOpAttack (a : Byte) (i : BitVec 2) (c : Byte) (s : State) (cfg : Config.Params := cvs) : Out :=
  opCtrl cfg 4 (fun v T => { T with ar := BitVec.ofNat 4 v }) (.setter .ar) a i c s

/-- CTRL.OP_DECAY (R209). -/
def execCtrlOpDecay (a : Byte) (i : BitVec 2) (c : Byte) (s : State) (cfg : Config.Params := cvs) : Out :=
  opCtrl cfg 4 (fun v T => { T with dr := BitVec.ofNat 4 v }) (.setter .dr) a i c s

/-- CTRL.OP_SUSTAIN (R210). -/
def execCtrlOpSustain (a : Byte) (i : BitVec 2) (c : Byte) (s : State) (cfg : Config.Params := cvs) : Out :=
  opCtrl cfg 4 (fun v T => { T with sl := BitVec.ofNat 4 v }) (.setter .sl) a i c s

/-- CTRL.OP_RELEASE (R211). -/
def execCtrlOpRelease (a : Byte) (i : BitVec 2) (c : Byte) (s : State) (cfg : Config.Params := cvs) : Out :=
  opCtrl cfg 4 (fun v T => { T with rr := BitVec.ofNat 4 v }) (.setter .rr) a i c s

/-- CTRL.OP_WAVEFORM (R212). -/
def execCtrlOpWaveform (a : Byte) (i : BitVec 2) (c : Byte) (s : State) (cfg : Config.Params := cvs) : Out :=
  opCtrl cfg 3 (fun v T => { T with ws := BitVec.ofNat 3 v }) (.setter .ws) a i c s

/-- CTRL.OP_LEVEL (R213). -/
def execCtrlOpLevel (a : Byte) (i : BitVec 2) (c : Byte) (s : State) (cfg : Config.Params := cvs) : Out :=
  opCtrl cfg 6 (fun v T => { T with level := BitVec.ofNat 6 v }) .attenuation a i c s

/-- CTRL.OP_KSL (R214). -/
def execCtrlOpKsl (a : Byte) (i : BitVec 2) (c : Byte) (s : State) (cfg : Config.Params := cvs) : Out :=
  opCtrl cfg 2 (fun v T => { T with ksl := BitVec.ofNat 2 v }) (.setter .ksl) a i c s

/-- CTRL.OP_MULT (R215). -/
def execCtrlOpMult (a : Byte) (i : BitVec 2) (c : Byte) (s : State) (cfg : Config.Params := cvs) : Out :=
  opCtrl cfg 4 (fun v T => { T with mult := BitVec.ofNat 4 v }) (.setter .mult) a i c s

/-- CTRL.OP_TREMOLO (R216). -/
def execCtrlOpTremolo (a : Byte) (i : BitVec 2) (c : Byte) (s : State) (cfg : Config.Params := cvs) : Out :=
  opCtrl cfg 1 (fun v T => { T with trem := BitVec.ofNat 1 v }) (.gated .trem) a i c s

/-- CTRL.OP_VIBRATO (R217). -/
def execCtrlOpVibrato (a : Byte) (i : BitVec 2) (c : Byte) (s : State) (cfg : Config.Params := cvs) : Out :=
  opCtrl cfg 1 (fun v T => { T with vib := BitVec.ofNat 1 v }) (.gated .vib) a i c s

/-- CTRL.OP_SUSFLAG (R218). -/
def execCtrlOpSusflag (a : Byte) (i : BitVec 2) (c : Byte) (s : State) (cfg : Config.Params := cvs) : Out :=
  opCtrl cfg 1 (fun v T => { T with sus := BitVec.ofNat 1 v }) (.setter .sus) a i c s

/-- CTRL.OP_ENVSCALE (R219). -/
def execCtrlOpEnvscale (a : Byte) (i : BitVec 2) (c : Byte) (s : State) (cfg : Config.Params := cvs) : Out :=
  opCtrl cfg 1 (fun v T => { T with ksr := BitVec.ofNat 1 v }) (.setter .ksr) a i c s

/-- CTRL.OP_VELSENS (R220). -/
def execCtrlOpVelsens (a : Byte) (i : BitVec 2) (c : Byte) (s : State) (cfg : Config.Params := cvs) : Out :=
  opCtrl cfg 6 (fun v T => { T with velSens := BitVec.ofNat 6 v }) .attenuation a i c s

/-! ### Pedal and the two "off" controllers -/

/-- CTRL.SUSTAIN_PEDAL: a value below 64 releases every voice whose `sustained` bit is set (R221). -/
def execCtrlSustainPedal (a c : Byte) (s : State) (cfg : Config.Params := cvs) : Out :=
  ctrlCommand a c (fun m v s =>
    let s1 := s.updPatch m (fun P => { P with pedal := decide (scaled 1 v = 1) })
    if scaled 1 v = 1 then .ok s1
    else .ok (visitVoices (fun x => ofChannel m x && x.sustained) (fun k h t => (releaseVoice cfg k h t, 0)) s1).1) s

/-- CTRL.ALL_SOUND_OFF (R222). -/
def execCtrlAllSoundOff (a c : Byte) (s : State) (cfg : Config.Params := cvs) : Out :=
  ctrlCommand a c (fun m _ s => .ok (forVoices m (forceSilence cfg) s)) s

/-- CTRL.ALL_NOTES_OFF (R223). -/
def execCtrlAllNotesOff (a c : Byte) (s : State) (cfg : Config.Params := cvs) : Out :=
  ctrlCommand a c (fun m _ s => .ok (forVoices m (stopVoice cfg) s)) s

/-! ### The general row -/

/-- CTRL: the tests of R200 in their order. An unassigned controller is out of range (R224). The decoder gives the
general row only unassigned numbers; a term that names an assigned one, which no word decodes to, acts as that
controller's own row (R88, log 11). -/
def execCtrl (a b c : Byte) (s : State) (cfg : Config.Params := cvs) : Out :=
  let i : BitVec 2 := b.extractLsb' 0 2
  match controllerOf cfg b with
  | some .program => execCtrlProgram a c s cfg
  | some .volume => execCtrlVolume a c s cfg
  | some .algorithm => execCtrlAlgorithm a c s cfg
  | some .feedback => execCtrlFeedback a c s cfg
  | some .output => execCtrlOutput a c s cfg
  | some .lfoDelay => execCtrlLfoDelay a c s
  | some .opAttack => execCtrlOpAttack a i c s cfg
  | some .opDecay => execCtrlOpDecay a i c s cfg
  | some .opSustain => execCtrlOpSustain a i c s cfg
  | some .opRelease => execCtrlOpRelease a i c s cfg
  | some .opWaveform => execCtrlOpWaveform a i c s cfg
  | some .opLevel => execCtrlOpLevel a i c s cfg
  | some .opKsl => execCtrlOpKsl a i c s cfg
  | some .opMult => execCtrlOpMult a i c s cfg
  | some .opTremolo => execCtrlOpTremolo a i c s cfg
  | some .opVibrato => execCtrlOpVibrato a i c s cfg
  | some .opSusflag => execCtrlOpSusflag a i c s cfg
  | some .opEnvscale => execCtrlOpEnvscale a i c s cfg
  | some .opVelsens => execCtrlOpVelsens a i c s cfg
  | some .sustainPedal => execCtrlSustainPedal a c s cfg
  | some .allSoundOff => execCtrlAllSoundOff a c s cfg
  | some .allNotesOff => execCtrlAllNotesOff a c s cfg
  | none => refuse .outOfRange 0 s

end Sys2Proof.Machine
end

