-- ==== Sys2Proof/Machine/Service.lean ====
section
/-! DEFINITION. The SERVICE command: voice timers, LFO start delay and release expiry (spec/43_service.md). -/

namespace Sys2Proof.Machine

/-- R242: the voice's `duration` advances, saturating. -/
def advanceDuration (cfg : Config.Params) (delta : BitVec 16) (k : SlotId) (s : State) : State :=
  s.updSlot k (fun x => { x with duration := satAdd cfg x.duration delta })

/-- The action of R243 for one operator: both flags from the template, written only if the template requests one. -/
def applyLfo (cfg : Config.Params) (k : SlotId) (h : Handle) (i : Fin 4) (s : State) : State :=
  let T := s.patch[s.slot[k].midiCh].op[i]
  if T.trem = 1 ∨ T.vib = 1 then
    match (opsOf cfg s h)[i.val]? with
    | none => s
    | some n => w20 cfg n (s.updOper n (fun o => { o with trem := T.trem, vib := T.vib }))
  else s

/-- R243: the LFO start delay, tested after `duration` has advanced, at most once per voice. -/
def startLfo (cfg : Config.Params) (k : SlotId) (h : Handle) (s : State) : State :=
  if !s.slot[k].lfoTriggered
      && decide (s.patch[s.slot[k].midiCh].lfoDelay.toNat * cfg.lfoMultMs < s.slot[k].duration.toNat) then
    (forOpIndices cfg h (fun i t => applyLfo cfg k h i t) s).updSlot k (fun x => { x with lfoTriggered := true })
  else s

/-- R245: the slowest cached release rate over the operators of a handle. A handle without operators, which only the
hazard of R311 leaves on a voice, has no stated rate: a free value (log 4). -/
def slowestRate (cfg : Config.Params) (h : Handle) (s : State) : BitVec 4 × State :=
  match opsOf cfg s h with
  | [] => (Config.slowestOfNone s.draws, { s with draws := s.draws + 1 })
  | n :: rest => (rest.foldl (fun r m => if s.oper[m].rr < r then s.oper[m].rr else r) s.oper[n].rr, s)

/-- R247: the release time of a rate is exceeded; rate 0 never expires. -/
def expired (cfg : Config.Params) (rate : BitVec 4) (elapsed : BitVec 15) : Bool :=
  match cfg.releaseMs[rate.toFin] with
  | none => false
  | some ms => rate != 0 && ms < elapsed.toNat

/-- R244, R245, R247: a Releasing voice accumulates release time and is silenced and freed when it is exceeded. -/
def releaseTimer (cfg : Config.Params) (delta : BitVec 16) (k : SlotId) (h : Handle) (s : State) : State × Nat :=
  if s.slot[k].releasing then
    let s1 := s.updSlot k (fun x => { x with releaseDuration := satAdd cfg x.releaseDuration delta })
    let r := slowestRate cfg h s1
    if expired cfg r.1 r.2.slot[k].releaseDuration then (forceSilence cfg k h r.2, 1) else (r.2, 0)
  else (s, 0)

/-- The four steps of SERVICE for one voice, in their order (R241, R249). -/
def serviceVoice (cfg : Config.Params) (delta : BitVec 16) (k : SlotId) (h : Handle) (s : State) : State × Nat :=
  releaseTimer cfg delta k h (startLfo cfg k h (advanceDuration cfg delta k s))

/-- SERVICE: the value is the number of voices freed; it cannot be refused (R241). -/
def execService (v : BitVec 16) (s : State) (cfg : Config.Params := cvs) : Out :=
  let r := visitVoices (fun _ => true) (serviceVoice cfg v) s
  complete (BitVec.ofNat 8 r.2) r.1

end Sys2Proof.Machine
end

