-- ==== Sys2Proof/Machine/System.lean ====
section
/-! DEFINITION. The system commands NOP, INIT and DETECT (spec/44_system.md R260 to R262). -/

namespace Sys2Proof.Machine

/-- NOP: `RESULT = {OK, 0}`, nothing else (R260). -/
def execNop (s : State) : Out := complete 0 s

/-- The physical channels in ascending order (R261 step 5). -/
def allChannels : List PhysId := [0, 1, 2, 3, 4, 5, 6, 7, 8, 9, 10, 11, 12, 13, 14, 15, 16, 17]

/-- The operators in ascending order (R261 step 6). -/
def allOperators : List OperId :=
  [0, 1, 2, 3, 4, 5, 6, 7, 8, 9, 10, 11, 12, 13, 14, 15, 16, 17]
    ++ [18, 19, 20, 21, 22, 23, 24, 25, 26, 27, 28, 29, 30, 31, 32, 33, 34, 35]

/-- The 237 register writes of INIT, in the order of its steps (2) to (6) (R261). -/
def initWrites (cfg : Config.Params) (s : State) : State :=
  let s1 := cfg.initPrologue.foldl (fun t w => regWriteAt cfg w.1 w.2 t) s
  let s2 := wBD cfg (w104 cfg s1)
  let s3 := allChannels.foldl (fun t c => wC0 cfg c (wA0 cfg c (wB0 cfg c t))) s2
  allOperators.foldl (fun t n => wE0 cfg n (w80 cfg n (w60 cfg n (w40 cfg n (w20 cfg n t))))) s3

/-- INIT: the block's state at its reset values, then the register writes; it cannot be refused (R261). -/
def execInit (s : State) (cfg : Config.Params := cvs) : Out := complete 0 (initWrites cfg (s.resetBlock cfg))

/-- The test on the two status bytes of the probe: only bits 7:5 count (R262). -/
def detected (cfg : Config.Params) (s1 s2 : Byte) : Bool :=
  s1 &&& statusFlags cfg == 0x00 && s2 &&& statusFlags cfg == statusExpired cfg

/-- The two register writes that silence the chip's timers: both masked, then the status flags cleared (R262). -/
def resetTimers (cfg : Config.Params) (s : State) : State :=
  regWriteAt cfg cfg.regs.timerControl (timerFlagsReset cfg) (regWriteAt cfg cfg.regs.timerControl (timersMasked cfg) s)

/-- DETECT: six register writes and two status reads; a failed probe is a result, not a refusal (R262). -/
def execDetect (s : State) (cfg : Config.Params := cvs) : Out :=
  let r1 := busRead (aport cfg 0) (resetTimers cfg s)
  let b := regWriteAt cfg cfg.regs.timerControl (timer1Started cfg) (regWriteAt cfg cfg.regs.timer1 0xFF r1.2)
  let r2 := busRead (aport cfg 0) b
  complete (if detected cfg r1.1 r2.1 then 1 else 0) (resetTimers cfg r2.2)

end Sys2Proof.Machine
end

