-- ==== Sys2Proof/Machine/Voice.lean ====
section
/-! DEFINITION. NOTE_ON, NOTE_OFF and PITCH_BEND (spec/41_voice_events.md R172, R179, R180). -/

namespace Sys2Proof.Machine

/-- NOTE_ON: the value is the slot bound, 0xFF on a refusal (R84, R172). -/
def execNoteOn (a b c : Byte) (s : State) (cfg : Config.Params := cvs) : Out :=
  match midiChannel a, sevenBit b, sevenBit c with
  | some m, some note, some vel =>
    match firstFree s with
    | none => refuse .resourceExhausted 0xFF s
    | some k =>
      match allocOrSteal cfg s.patch[m].ctype s with
      | (none, s1) => refuse .resourceExhausted 0xFF s1
      | (some h, s1) => complete (BitVec.ofNat 8 k.val) (startVoice cfg k m note vel h s1)
  | _, _, _ => refuse .outOfRange 0xFF s

/-- NOTE_OFF: the value is the number of slots matched (R179). -/
def execNoteOff (a b : Byte) (s : State) (cfg : Config.Params := cvs) : Out :=
  match midiChannel a, sevenBit b with
  | some m, some note =>
    let r := visitVoices (fun x => ofChannel m x && x.note == note) (fun k h t => (stopVoice cfg k h t, 1)) s
    complete (BitVec.ofNat 8 r.2) r.1
  | _, _ => refuse .outOfRange 0 s

/-- PITCH_BEND: the value is the number of voices visited (R180, R311). -/
def execPitchBend (a : Byte) (v : BitVec 16) (s : State) (cfg : Config.Params := cvs) : Out :=
  match midiChannel a with
  | none => refuse .outOfRange 0 s
  | some m =>
    if 16384 ≤ v.toNat then refuse .outOfRange 0 s
    else
      let s1 := s.updPatch m (fun P => { P with bendCents := BitVec.ofInt 9 (bendLaw v.toNat) })
      let r := visitVoices (ofChannel m)
        (fun k h t => (attempt (setFreq cfg h (noteFreq cfg t.slot[k].note t.patch[m].bendCents.toInt)) t, 1)) s1
      complete (BitVec.ofNat 8 r.2) r.1

end Sys2Proof.Machine
end

