-- ==== Sys2Proof/Syntax.lean ====
section
/-! DEFINITION. The commands of CVS-1: one constructor per row of spec/opcode_table.json. -/

namespace Sys2Proof

/-- A decoded command. The arguments are the fields that the command uses (R81, R83), each a field of the
command word: `a`, `b`, `c` are the bytes `A`, `B`, `C`, `v` the 16-bit `V`, `h` and `freq` the fields of format F,
and `i` the two low bits of a controller number of 12..63 (R88). -/
inductive Instr where
  /-- NOP (R260). -/
  | nop
  /-- NOTE_ON channel, note, velocity (R172). -/
  | noteOn (a b c : Byte)
  /-- NOTE_OFF channel, note (R179). -/
  | noteOff (a b : Byte)
  /-- CTRL channel, controller, value: the general row, whose controller number no refining row matches (R88, R224). -/
  | ctrl (a b c : Byte)
  /-- CTRL.PROGRAM, controller 3 (R201). -/
  | ctrlProgram (a c : Byte)
  /-- CTRL.VOLUME, controller 7 (R202). -/
  | ctrlVolume (a c : Byte)
  /-- CTRL.ALGORITHM, controller 8 (R203). -/
  | ctrlAlgorithm (a c : Byte)
  /-- CTRL.FEEDBACK, controller 9 (R204). -/
  | ctrlFeedback (a c : Byte)
  /-- CTRL.OUTPUT, controller 10 (R205). -/
  | ctrlOutput (a c : Byte)
  /-- CTRL.LFO_DELAY, controller 11 (R206). -/
  | ctrlLfoDelay (a c : Byte)
  /-- CTRL.OP_ATTACK, controllers 12..15 (R208). -/
  | ctrlOpAttack (a : Byte) (i : BitVec 2) (c : Byte)
  /-- CTRL.OP_DECAY, controllers 16..19 (R209). -/
  | ctrlOpDecay (a : Byte) (i : BitVec 2) (c : Byte)
  /-- CTRL.OP_SUSTAIN, controllers 20..23 (R210). -/
  | ctrlOpSustain (a : Byte) (i : BitVec 2) (c : Byte)
  /-- CTRL.OP_RELEASE, controllers 24..27 (R211). -/
  | ctrlOpRelease (a : Byte) (i : BitVec 2) (c : Byte)
  /-- CTRL.OP_WAVEFORM, controllers 28..31 (R212). -/
  | ctrlOpWaveform (a : Byte) (i : BitVec 2) (c : Byte)
  /-- CTRL.OP_LEVEL, controllers 32..35 (R213). -/
  | ctrlOpLevel (a : Byte) (i : BitVec 2) (c : Byte)
  /-- CTRL.OP_KSL, controllers 36..39 (R214). -/
  | ctrlOpKsl (a : Byte) (i : BitVec 2) (c : Byte)
  /-- CTRL.OP_MULT, controllers 40..43 (R215). -/
  | ctrlOpMult (a : Byte) (i : BitVec 2) (c : Byte)
  /-- CTRL.OP_TREMOLO, controllers 44..47 (R216). -/
  | ctrlOpTremolo (a : Byte) (i : BitVec 2) (c : Byte)
  /-- CTRL.OP_VIBRATO, controllers 48..51 (R217). -/
  | ctrlOpVibrato (a : Byte) (i : BitVec 2) (c : Byte)
  /-- CTRL.OP_SUSFLAG, controllers 52..55 (R218). -/
  | ctrlOpSusflag (a : Byte) (i : BitVec 2) (c : Byte)
  /-- CTRL.OP_ENVSCALE, controllers 56..59 (R219). -/
  | ctrlOpEnvscale (a : Byte) (i : BitVec 2) (c : Byte)
  /-- CTRL.OP_VELSENS, controllers 60..63 (R220). -/
  | ctrlOpVelsens (a : Byte) (i : BitVec 2) (c : Byte)
  /-- CTRL.SUSTAIN_PEDAL, controller 64 (R221). -/
  | ctrlSustainPedal (a c : Byte)
  /-- CTRL.ALL_SOUND_OFF, controller 120 (R222). -/
  | ctrlAllSoundOff (a c : Byte)
  /-- CTRL.ALL_NOTES_OFF, controller 123 (R223). -/
  | ctrlAllNotesOff (a c : Byte)
  /-- PITCH_BEND channel, value (R180). -/
  | pitchBend (a : Byte) (v : BitVec 16)
  /-- SERVICE elapsed milliseconds (R241). -/
  | service (v : BitVec 16)
  /-- INIT (R261). -/
  | init
  /-- DETECT (R262). -/
  | detect
  /-- ALLOC type code (R122). -/
  | alloc (a : Byte)
  /-- FREE handle (R126). -/
  | free (a : Byte)
  /-- PERC_ENABLE (R127). -/
  | percEnable
  /-- PERC_DISABLE (R128). -/
  | percDisable
  /-- KEY_ON handle (R130). -/
  | keyOn (a : Byte)
  /-- KEY_OFF handle (R131). -/
  | keyOff (a : Byte)
  /-- GET_OP_TYPE handle, operator index (R148). -/
  | getOpType (a b : Byte)
  /-- GET_OP_COUNT handle (R149). -/
  | getOpCount (a : Byte)
  /-- SET_OP_ATTACK handle, operator index, value (R133). -/
  | setOpAttack (a b c : Byte)
  /-- SET_OP_DECAY handle, operator index, value (R134). -/
  | setOpDecay (a b c : Byte)
  /-- SET_OP_SUSTAIN handle, operator index, value (R135). -/
  | setOpSustain (a b c : Byte)
  /-- SET_OP_RELEASE handle, operator index, value (R136). -/
  | setOpRelease (a b c : Byte)
  /-- SET_OP_WAVEFORM handle, operator index, value (R137). -/
  | setOpWaveform (a b c : Byte)
  /-- SET_OP_ATTENUATION handle, operator index, value (R138). -/
  | setOpAttenuation (a b c : Byte)
  /-- SET_OP_KSL handle, operator index, value (R139). -/
  | setOpKsl (a b c : Byte)
  /-- SET_OP_MULT handle, operator index, value (R140). -/
  | setOpMult (a b c : Byte)
  /-- SET_OP_TREMOLO handle, operator index, value (R141). -/
  | setOpTremolo (a b c : Byte)
  /-- SET_OP_VIBRATO handle, operator index, value (R142). -/
  | setOpVibrato (a b c : Byte)
  /-- SET_OP_SUSFLAG handle, operator index, value (R143). -/
  | setOpSusflag (a b c : Byte)
  /-- SET_OP_ENVSCALE handle, operator index, value (R144). -/
  | setOpEnvscale (a b c : Byte)
  /-- SET_OUTPUT handle, value (R145). -/
  | setOutput (a c : Byte)
  /-- SET_FEEDBACK handle, value (R146). -/
  | setFeedback (a c : Byte)
  /-- SET_ALGORITHM handle, value (R147). -/
  | setAlgorithm (a c : Byte)
  /-- SET_FREQ handle, centihertz (R129). -/
  | setFreq (h : BitVec 5) (freq : BitVec 26)
  deriving DecidableEq, Repr

end Sys2Proof
end

