-- ==== Sys2Proof/Machine/Configured.lean ====
section
/-! DEFINITION. What each command does under any record of parameters (spec/00_scope.md R8, spec/10_state.md R20). The
fixed name `exec` of Machine/Dispatch.lean is this at the values of R8. -/

namespace Sys2Proof.Machine

/-- The meaning of a command, the record of parameters being an argument (R8, R20). Three commands read no parameter. -/
def execWith (cfg : Config.Params) (i : Instr) (s : State) : Out :=
  match i with
  | .nop => execNop s
  | .noteOn a b c => execNoteOn a b c s cfg
  | .noteOff a b => execNoteOff a b s cfg
  | .ctrl a b c => execCtrl a b c s cfg
  | .ctrlProgram a c => execCtrlProgram a c s cfg
  | .ctrlVolume a c => execCtrlVolume a c s cfg
  | .ctrlAlgorithm a c => execCtrlAlgorithm a c s cfg
  | .ctrlFeedback a c => execCtrlFeedback a c s cfg
  | .ctrlOutput a c => execCtrlOutput a c s cfg
  | .ctrlLfoDelay a c => execCtrlLfoDelay a c s
  | .ctrlOpAttack a j c => execCtrlOpAttack a j c s cfg
  | .ctrlOpDecay a j c => execCtrlOpDecay a j c s cfg
  | .ctrlOpSustain a j c => execCtrlOpSustain a j c s cfg
  | .ctrlOpRelease a j c => execCtrlOpRelease a j c s cfg
  | .ctrlOpWaveform a j c => execCtrlOpWaveform a j c s cfg
  | .ctrlOpLevel a j c => execCtrlOpLevel a j c s cfg
  | .ctrlOpKsl a j c => execCtrlOpKsl a j c s cfg
  | .ctrlOpMult a j c => execCtrlOpMult a j c s cfg
  | .ctrlOpTremolo a j c => execCtrlOpTremolo a j c s cfg
  | .ctrlOpVibrato a j c => execCtrlOpVibrato a j c s cfg
  | .ctrlOpSusflag a j c => execCtrlOpSusflag a j c s cfg
  | .ctrlOpEnvscale a j c => execCtrlOpEnvscale a j c s cfg
  | .ctrlOpVelsens a j c => execCtrlOpVelsens a j c s cfg
  | .ctrlSustainPedal a c => execCtrlSustainPedal a c s cfg
  | .ctrlAllSoundOff a c => execCtrlAllSoundOff a c s cfg
  | .ctrlAllNotesOff a c => execCtrlAllNotesOff a c s cfg
  | .pitchBend a v => execPitchBend a v s cfg
  | .service v => execService v s cfg
  | .init => execInit s cfg
  | .detect => execDetect s cfg
  | .alloc a => execAlloc a s cfg
  | .free a => execFree a s
  | .percEnable => execPercEnable s cfg
  | .percDisable => execPercDisable s cfg
  | .keyOn a => execKeyOn a s cfg
  | .keyOff a => execKeyOff a s cfg
  | .getOpType a b => execGetOpType a b s cfg
  | .getOpCount a => execGetOpCount a s cfg
  | .setOpAttack a b c => execSetOpAttack a b c s cfg
  | .setOpDecay a b c => execSetOpDecay a b c s cfg
  | .setOpSustain a b c => execSetOpSustain a b c s cfg
  | .setOpRelease a b c => execSetOpRelease a b c s cfg
  | .setOpWaveform a b c => execSetOpWaveform a b c s cfg
  | .setOpAttenuation a b c => execSetOpAttenuation a b c s cfg
  | .setOpKsl a b c => execSetOpKsl a b c s cfg
  | .setOpMult a b c => execSetOpMult a b c s cfg
  | .setOpTremolo a b c => execSetOpTremolo a b c s cfg
  | .setOpVibrato a b c => execSetOpVibrato a b c s cfg
  | .setOpSusflag a b c => execSetOpSusflag a b c s cfg
  | .setOpEnvscale a b c => execSetOpEnvscale a b c s cfg
  | .setOutput a c => execSetOutput a c s cfg
  | .setFeedback a c => execSetFeedback a c s cfg
  | .setAlgorithm a c => execSetAlgorithm a c s cfg
  | .setFreq h freq => execSetFreq h freq s cfg

end Sys2Proof.Machine
end

