-- ==== Sys2Proof/WellFormed.lean ====
section
/-! DEFINITION. Which `Instr` terms are commands. Every byte is a legal bit pattern in every operand field (R82: what
a command does with an illegal VALUE is in its own rule), so the one check is on the general row of CTRL: it stands
for the controller numbers that no refining row of spec/opcode_table.json matches (R88). -/

namespace Sys2Proof

/-- The controller numbers that the map `CCMAP` assigns (R88). -/
def assignedController (cfg : Config.Params) (b : Byte) : Bool := (Machine.controllerOf cfg b).isSome

/-- A term that is a command: a general CTRL carries an unassigned controller number (R88). -/
def Instr.wf (cfg : Config.Params) : Instr → Bool
  | .ctrl _ b _ => !assignedController cfg b
  | .nop | .noteOn .. | .noteOff .. | .ctrlProgram .. | .ctrlVolume .. | .ctrlAlgorithm .. | .ctrlFeedback ..
  | .ctrlOutput .. | .ctrlLfoDelay .. | .ctrlOpAttack .. | .ctrlOpDecay .. | .ctrlOpSustain .. | .ctrlOpRelease ..
  | .ctrlOpWaveform .. | .ctrlOpLevel .. | .ctrlOpKsl .. | .ctrlOpMult .. | .ctrlOpTremolo .. | .ctrlOpVibrato ..
  | .ctrlOpSusflag .. | .ctrlOpEnvscale .. | .ctrlOpVelsens .. | .ctrlSustainPedal .. | .ctrlAllSoundOff ..
  | .ctrlAllNotesOff .. | .pitchBend .. | .service .. | .init | .detect | .alloc .. | .free .. | .percEnable
  | .percDisable | .keyOn .. | .keyOff .. | .getOpType .. | .getOpCount .. | .setOpAttack .. | .setOpDecay ..
  | .setOpSustain .. | .setOpRelease .. | .setOpWaveform .. | .setOpAttenuation .. | .setOpKsl .. | .setOpMult ..
  | .setOpTremolo .. | .setOpVibrato .. | .setOpSusflag .. | .setOpEnvscale .. | .setOutput .. | .setFeedback ..
  | .setAlgorithm .. | .setFreq .. => true

end Sys2Proof
end

