-- ==== Sys2Proof/Decode.lean ====
section
/-! DEFINITION. The command decoder and encoder (spec/30_encoding.md R80, R81, R88, R112), and the rows of
spec/opcode_table.json as data. -/

namespace Sys2Proof

/-- Why a word is no command: its command code is reserved (R85). -/
inductive DecodeReject where
  | reservedCode (code : Byte)
  deriving DecidableEq, Repr

/-- The command code, `W[31:24]` (R80). -/
def opcodeOf (w : Word) : Byte := w.extractLsb' 24 8

/-- `A = W[23:16]` (R80). -/
def fieldA (w : Word) : Byte := w.extractLsb' 16 8

/-- `B = W[15:8]` (R80). -/
def fieldB (w : Word) : Byte := w.extractLsb' 8 8

/-- `C = W[7:0]` (R80). -/
def fieldC (w : Word) : Byte := w.extractLsb' 0 8

/-- `V = W[15:0]` (R80). -/
def fieldV (w : Word) : BitVec 16 := w.extractLsb' 0 16

/-- `H = W[30:26]` (R80). -/
def fieldH (w : Word) : BitVec 5 := w.extractLsb' 26 5

/-- `FREQ = W[25:0]` (R80). -/
def fieldFreq (w : Word) : BitVec 26 := w.extractLsb' 0 26

/-- A CTRL command, decoded by its controller number `b` (R88): `CCMAP` gives the function, and of an operator-field group
`b[1:0]` is the operator index; a number the map does not assign gives the general row. DESIGN CHOICE (log 8): the map
is an argument, and `step` gives it the spec's default, `cvs.ccmap`, which D34 leaves open. -/
def decodeCtrl (cfg : Config.Params) (a b c : Byte) : Instr :=
  let i : BitVec 2 := b.extractLsb' 0 2
  match Machine.controllerOf cfg b with
  | some .program => .ctrlProgram a c
  | some .volume => .ctrlVolume a c
  | some .algorithm => .ctrlAlgorithm a c
  | some .feedback => .ctrlFeedback a c
  | some .output => .ctrlOutput a c
  | some .lfoDelay => .ctrlLfoDelay a c
  | some .opAttack => .ctrlOpAttack a i c
  | some .opDecay => .ctrlOpDecay a i c
  | some .opSustain => .ctrlOpSustain a i c
  | some .opRelease => .ctrlOpRelease a i c
  | some .opWaveform => .ctrlOpWaveform a i c
  | some .opLevel => .ctrlOpLevel a i c
  | some .opKsl => .ctrlOpKsl a i c
  | some .opMult => .ctrlOpMult a i c
  | some .opTremolo => .ctrlOpTremolo a i c
  | some .opVibrato => .ctrlOpVibrato a i c
  | some .opSusflag => .ctrlOpSusflag a i c
  | some .opEnvscale => .ctrlOpEnvscale a i c
  | some .opVelsens => .ctrlOpVelsens a i c
  | some .sustainPedal => .ctrlSustainPedal a c
  | some .allSoundOff => .ctrlAllSoundOff a c
  | some .allNotesOff => .ctrlAllNotesOff a c
  | none => .ctrl a b c

/-- Decode one command word (R80, R81). Every word is a command or is rejected by the name of its reserved code. -/
def decode (cfg : Config.Params) (w : Word) : Except DecodeReject Instr :=
  if w.getLsbD 31 then .ok (.setFreq (fieldH w) (fieldFreq w))
  else
    let a := fieldA w
    let b := fieldB w
    let c := fieldC w
    match (opcodeOf w).toNat with
    | 0x00 => .ok .nop
    | 0x01 => .ok (.noteOn a b c)
    | 0x02 => .ok (.noteOff a b)
    | 0x03 => .ok (decodeCtrl cfg a b c)
    | 0x04 => .ok (.pitchBend a (fieldV w))
    | 0x05 => .ok (.service (fieldV w))
    | 0x06 => .ok .init
    | 0x07 => .ok .detect
    | 0x10 => .ok (.alloc a)
    | 0x11 => .ok (.free a)
    | 0x12 => .ok .percEnable
    | 0x13 => .ok .percDisable
    | 0x14 => .ok (.keyOn a)
    | 0x15 => .ok (.keyOff a)
    | 0x16 => .ok (.getOpType a b)
    | 0x17 => .ok (.getOpCount a)
    | 0x20 => .ok (.setOpAttack a b c)
    | 0x21 => .ok (.setOpDecay a b c)
    | 0x22 => .ok (.setOpSustain a b c)
    | 0x23 => .ok (.setOpRelease a b c)
    | 0x24 => .ok (.setOpWaveform a b c)
    | 0x25 => .ok (.setOpAttenuation a b c)
    | 0x26 => .ok (.setOpKsl a b c)
    | 0x27 => .ok (.setOpMult a b c)
    | 0x28 => .ok (.setOpTremolo a b c)
    | 0x29 => .ok (.setOpVibrato a b c)
    | 0x2A => .ok (.setOpSusflag a b c)
    | 0x2B => .ok (.setOpEnvscale a b c)
    | 0x30 => .ok (.setOutput a c)
    | 0x31 => .ok (.setFeedback a c)
    | 0x32 => .ok (.setAlgorithm a c)
    | _ => .error (.reservedCode (opcodeOf w))

/-- Format B: `opcode << 24 | A << 16 | B << 8 | C` (R112). -/
def packB (code a b c : Byte) : Word := code ++ a ++ b ++ c

/-- Format W: `opcode << 24 | A << 16 | V` (R112). -/
def packW (code a : Byte) (v : BitVec 16) : Word := code ++ a ++ v

/-- Format F: `1 << 31 | H << 26 | FREQ` (R112). -/
def packF (h : BitVec 5) (freq : BitVec 26) : Word := (1 : BitVec 1) ++ h ++ freq

/-- A CTRL command of a function with one number (R88). -/
def packCtrl (cfg : Config.Params) (a : Byte) (n : Machine.Controller) (c : Byte) : Word :=
  packB 0x03 a (Machine.controllerNumber cfg n) c

/-- A CTRL command of an operator-field group: the group's first number, plus the operator index (R88). -/
def packOpCtrl (cfg : Config.Params) (a : Byte) (n : Machine.Controller) (i : BitVec 2) (c : Byte) : Word :=
  packB 0x03 a (Machine.controllerNumber cfg n + i.setWidth 8) c

/-- The word of a command, its unused fields zero (R110, R112). -/
def encode (cfg : Config.Params) : Instr → Word
  | .nop => packB 0x00 0 0 0
  | .noteOn a b c => packB 0x01 a b c
  | .noteOff a b => packB 0x02 a b 0
  | .ctrl a b c => packB 0x03 a b c
  | .ctrlProgram a c => packCtrl cfg a .program c
  | .ctrlVolume a c => packCtrl cfg a .volume c
  | .ctrlAlgorithm a c => packCtrl cfg a .algorithm c
  | .ctrlFeedback a c => packCtrl cfg a .feedback c
  | .ctrlOutput a c => packCtrl cfg a .output c
  | .ctrlLfoDelay a c => packCtrl cfg a .lfoDelay c
  | .ctrlOpAttack a i c => packOpCtrl cfg a .opAttack i c
  | .ctrlOpDecay a i c => packOpCtrl cfg a .opDecay i c
  | .ctrlOpSustain a i c => packOpCtrl cfg a .opSustain i c
  | .ctrlOpRelease a i c => packOpCtrl cfg a .opRelease i c
  | .ctrlOpWaveform a i c => packOpCtrl cfg a .opWaveform i c
  | .ctrlOpLevel a i c => packOpCtrl cfg a .opLevel i c
  | .ctrlOpKsl a i c => packOpCtrl cfg a .opKsl i c
  | .ctrlOpMult a i c => packOpCtrl cfg a .opMult i c
  | .ctrlOpTremolo a i c => packOpCtrl cfg a .opTremolo i c
  | .ctrlOpVibrato a i c => packOpCtrl cfg a .opVibrato i c
  | .ctrlOpSusflag a i c => packOpCtrl cfg a .opSusflag i c
  | .ctrlOpEnvscale a i c => packOpCtrl cfg a .opEnvscale i c
  | .ctrlOpVelsens a i c => packOpCtrl cfg a .opVelsens i c
  | .ctrlSustainPedal a c => packCtrl cfg a .sustainPedal c
  | .ctrlAllSoundOff a c => packCtrl cfg a .allSoundOff c
  | .ctrlAllNotesOff a c => packCtrl cfg a .allNotesOff c
  | .pitchBend a v => packW 0x04 a v
  | .service v => packW 0x05 0 v
  | .init => packB 0x06 0 0 0
  | .detect => packB 0x07 0 0 0
  | .alloc a => packB 0x10 a 0 0
  | .free a => packB 0x11 a 0 0
  | .percEnable => packB 0x12 0 0 0
  | .percDisable => packB 0x13 0 0 0
  | .keyOn a => packB 0x14 a 0 0
  | .keyOff a => packB 0x15 a 0 0
  | .getOpType a b => packB 0x16 a b 0
  | .getOpCount a => packB 0x17 a 0 0
  | .setOpAttack a b c => packB 0x20 a b c
  | .setOpDecay a b c => packB 0x21 a b c
  | .setOpSustain a b c => packB 0x22 a b c
  | .setOpRelease a b c => packB 0x23 a b c
  | .setOpWaveform a b c => packB 0x24 a b c
  | .setOpAttenuation a b c => packB 0x25 a b c
  | .setOpKsl a b c => packB 0x26 a b c
  | .setOpMult a b c => packB 0x27 a b c
  | .setOpTremolo a b c => packB 0x28 a b c
  | .setOpVibrato a b c => packB 0x29 a b c
  | .setOpSusflag a b c => packB 0x2A a b c
  | .setOpEnvscale a b c => packB 0x2B a b c
  | .setOutput a c => packB 0x30 a 0 c
  | .setFeedback a c => packB 0x31 a 0 c
  | .setAlgorithm a c => packB 0x32 a 0 c
  | .setFreq h freq => packF h freq

/-- One row of spec/opcode_table.json: the bits that select it (R88, 00_scope R2). -/
structure OpcodeRow where
  mnemonic : String
  mask : Word
  value : Word
  deriving DecidableEq, Repr

/-- The row of the opcode table that a command is (its mnemonic letter for letter). -/
def Instr.row : Instr → OpcodeRow
  | .nop => ⟨"NOP", 0xFF000000, 0x00000000⟩
  | .noteOn _ _ _ => ⟨"NOTE_ON", 0xFF000000, 0x01000000⟩
  | .noteOff _ _ => ⟨"NOTE_OFF", 0xFF000000, 0x02000000⟩
  | .ctrl _ _ _ => ⟨"CTRL", 0xFF000000, 0x03000000⟩
  | .ctrlProgram _ _ => ⟨"CTRL.PROGRAM", 0xFF00FF00, 0x03000300⟩
  | .ctrlVolume _ _ => ⟨"CTRL.VOLUME", 0xFF00FF00, 0x03000700⟩
  | .ctrlAlgorithm _ _ => ⟨"CTRL.ALGORITHM", 0xFF00FF00, 0x03000800⟩
  | .ctrlFeedback _ _ => ⟨"CTRL.FEEDBACK", 0xFF00FF00, 0x03000900⟩
  | .ctrlOutput _ _ => ⟨"CTRL.OUTPUT", 0xFF00FF00, 0x03000A00⟩
  | .ctrlLfoDelay _ _ => ⟨"CTRL.LFO_DELAY", 0xFF00FF00, 0x03000B00⟩
  | .ctrlOpAttack _ _ _ => ⟨"CTRL.OP_ATTACK", 0xFF00FC00, 0x03000C00⟩
  | .ctrlOpDecay _ _ _ => ⟨"CTRL.OP_DECAY", 0xFF00FC00, 0x03001000⟩
  | .ctrlOpSustain _ _ _ => ⟨"CTRL.OP_SUSTAIN", 0xFF00FC00, 0x03001400⟩
  | .ctrlOpRelease _ _ _ => ⟨"CTRL.OP_RELEASE", 0xFF00FC00, 0x03001800⟩
  | .ctrlOpWaveform _ _ _ => ⟨"CTRL.OP_WAVEFORM", 0xFF00FC00, 0x03001C00⟩
  | .ctrlOpLevel _ _ _ => ⟨"CTRL.OP_LEVEL", 0xFF00FC00, 0x03002000⟩
  | .ctrlOpKsl _ _ _ => ⟨"CTRL.OP_KSL", 0xFF00FC00, 0x03002400⟩
  | .ctrlOpMult _ _ _ => ⟨"CTRL.OP_MULT", 0xFF00FC00, 0x03002800⟩
  | .ctrlOpTremolo _ _ _ => ⟨"CTRL.OP_TREMOLO", 0xFF00FC00, 0x03002C00⟩
  | .ctrlOpVibrato _ _ _ => ⟨"CTRL.OP_VIBRATO", 0xFF00FC00, 0x03003000⟩
  | .ctrlOpSusflag _ _ _ => ⟨"CTRL.OP_SUSFLAG", 0xFF00FC00, 0x03003400⟩
  | .ctrlOpEnvscale _ _ _ => ⟨"CTRL.OP_ENVSCALE", 0xFF00FC00, 0x03003800⟩
  | .ctrlOpVelsens _ _ _ => ⟨"CTRL.OP_VELSENS", 0xFF00FC00, 0x03003C00⟩
  | .ctrlSustainPedal _ _ => ⟨"CTRL.SUSTAIN_PEDAL", 0xFF00FF00, 0x03004000⟩
  | .ctrlAllSoundOff _ _ => ⟨"CTRL.ALL_SOUND_OFF", 0xFF00FF00, 0x03007800⟩
  | .ctrlAllNotesOff _ _ => ⟨"CTRL.ALL_NOTES_OFF", 0xFF00FF00, 0x03007B00⟩
  | .pitchBend _ _ => ⟨"PITCH_BEND", 0xFF000000, 0x04000000⟩
  | .service _ => ⟨"SERVICE", 0xFF000000, 0x05000000⟩
  | .init => ⟨"INIT", 0xFF000000, 0x06000000⟩
  | .detect => ⟨"DETECT", 0xFF000000, 0x07000000⟩
  | .alloc _ => ⟨"ALLOC", 0xFF000000, 0x10000000⟩
  | .free _ => ⟨"FREE", 0xFF000000, 0x11000000⟩
  | .percEnable => ⟨"PERC_ENABLE", 0xFF000000, 0x12000000⟩
  | .percDisable => ⟨"PERC_DISABLE", 0xFF000000, 0x13000000⟩
  | .keyOn _ => ⟨"KEY_ON", 0xFF000000, 0x14000000⟩
  | .keyOff _ => ⟨"KEY_OFF", 0xFF000000, 0x15000000⟩
  | .getOpType _ _ => ⟨"GET_OP_TYPE", 0xFF000000, 0x16000000⟩
  | .getOpCount _ => ⟨"GET_OP_COUNT", 0xFF000000, 0x17000000⟩
  | .setOpAttack _ _ _ => ⟨"SET_OP_ATTACK", 0xFF000000, 0x20000000⟩
  | .setOpDecay _ _ _ => ⟨"SET_OP_DECAY", 0xFF000000, 0x21000000⟩
  | .setOpSustain _ _ _ => ⟨"SET_OP_SUSTAIN", 0xFF000000, 0x22000000⟩
  | .setOpRelease _ _ _ => ⟨"SET_OP_RELEASE", 0xFF000000, 0x23000000⟩
  | .setOpWaveform _ _ _ => ⟨"SET_OP_WAVEFORM", 0xFF000000, 0x24000000⟩
  | .setOpAttenuation _ _ _ => ⟨"SET_OP_ATTENUATION", 0xFF000000, 0x25000000⟩
  | .setOpKsl _ _ _ => ⟨"SET_OP_KSL", 0xFF000000, 0x26000000⟩
  | .setOpMult _ _ _ => ⟨"SET_OP_MULT", 0xFF000000, 0x27000000⟩
  | .setOpTremolo _ _ _ => ⟨"SET_OP_TREMOLO", 0xFF000000, 0x28000000⟩
  | .setOpVibrato _ _ _ => ⟨"SET_OP_VIBRATO", 0xFF000000, 0x29000000⟩
  | .setOpSusflag _ _ _ => ⟨"SET_OP_SUSFLAG", 0xFF000000, 0x2A000000⟩
  | .setOpEnvscale _ _ _ => ⟨"SET_OP_ENVSCALE", 0xFF000000, 0x2B000000⟩
  | .setOutput _ _ => ⟨"SET_OUTPUT", 0xFF000000, 0x30000000⟩
  | .setFeedback _ _ => ⟨"SET_FEEDBACK", 0xFF000000, 0x31000000⟩
  | .setAlgorithm _ _ => ⟨"SET_ALGORITHM", 0xFF000000, 0x32000000⟩
  | .setFreq _ _ => ⟨"SET_FREQ", 0x80000000, 0x80000000⟩

/-- A word has the fixed bits of a row. -/
def OpcodeRow.selects (r : OpcodeRow) (w : Word) : Bool := w &&& r.mask == r.value

/-- The rows of spec/opcode_table.json, in its order: mnemonic, mask, match. -/
def opcodeRows : List OpcodeRow :=
  [⟨"NOP", 0xFF000000, 0x00000000⟩,
     ⟨"NOTE_ON", 0xFF000000, 0x01000000⟩,
     ⟨"NOTE_OFF", 0xFF000000, 0x02000000⟩,
     ⟨"CTRL", 0xFF000000, 0x03000000⟩,
     ⟨"CTRL.PROGRAM", 0xFF00FF00, 0x03000300⟩,
     ⟨"CTRL.VOLUME", 0xFF00FF00, 0x03000700⟩,
     ⟨"CTRL.ALGORITHM", 0xFF00FF00, 0x03000800⟩,
     ⟨"CTRL.FEEDBACK", 0xFF00FF00, 0x03000900⟩,
     ⟨"CTRL.OUTPUT", 0xFF00FF00, 0x03000A00⟩]
  ++ [⟨"CTRL.LFO_DELAY", 0xFF00FF00, 0x03000B00⟩,
     ⟨"CTRL.OP_ATTACK", 0xFF00FC00, 0x03000C00⟩,
     ⟨"CTRL.OP_DECAY", 0xFF00FC00, 0x03001000⟩,
     ⟨"CTRL.OP_SUSTAIN", 0xFF00FC00, 0x03001400⟩,
     ⟨"CTRL.OP_RELEASE", 0xFF00FC00, 0x03001800⟩,
     ⟨"CTRL.OP_WAVEFORM", 0xFF00FC00, 0x03001C00⟩,
     ⟨"CTRL.OP_LEVEL", 0xFF00FC00, 0x03002000⟩,
     ⟨"CTRL.OP_KSL", 0xFF00FC00, 0x03002400⟩,
     ⟨"CTRL.OP_MULT", 0xFF00FC00, 0x03002800⟩]
  ++ [⟨"CTRL.OP_TREMOLO", 0xFF00FC00, 0x03002C00⟩,
     ⟨"CTRL.OP_VIBRATO", 0xFF00FC00, 0x03003000⟩,
     ⟨"CTRL.OP_SUSFLAG", 0xFF00FC00, 0x03003400⟩,
     ⟨"CTRL.OP_ENVSCALE", 0xFF00FC00, 0x03003800⟩,
     ⟨"CTRL.OP_VELSENS", 0xFF00FC00, 0x03003C00⟩,
     ⟨"CTRL.SUSTAIN_PEDAL", 0xFF00FF00, 0x03004000⟩,
     ⟨"CTRL.ALL_SOUND_OFF", 0xFF00FF00, 0x03007800⟩,
     ⟨"CTRL.ALL_NOTES_OFF", 0xFF00FF00, 0x03007B00⟩,
     ⟨"PITCH_BEND", 0xFF000000, 0x04000000⟩]
  ++ [⟨"SERVICE", 0xFF000000, 0x05000000⟩,
     ⟨"INIT", 0xFF000000, 0x06000000⟩,
     ⟨"DETECT", 0xFF000000, 0x07000000⟩,
     ⟨"ALLOC", 0xFF000000, 0x10000000⟩,
     ⟨"FREE", 0xFF000000, 0x11000000⟩,
     ⟨"PERC_ENABLE", 0xFF000000, 0x12000000⟩,
     ⟨"PERC_DISABLE", 0xFF000000, 0x13000000⟩,
     ⟨"KEY_ON", 0xFF000000, 0x14000000⟩,
     ⟨"KEY_OFF", 0xFF000000, 0x15000000⟩]
  ++ [⟨"GET_OP_TYPE", 0xFF000000, 0x16000000⟩,
     ⟨"GET_OP_COUNT", 0xFF000000, 0x17000000⟩,
     ⟨"SET_OP_ATTACK", 0xFF000000, 0x20000000⟩,
     ⟨"SET_OP_DECAY", 0xFF000000, 0x21000000⟩,
     ⟨"SET_OP_SUSTAIN", 0xFF000000, 0x22000000⟩,
     ⟨"SET_OP_RELEASE", 0xFF000000, 0x23000000⟩,
     ⟨"SET_OP_WAVEFORM", 0xFF000000, 0x24000000⟩,
     ⟨"SET_OP_ATTENUATION", 0xFF000000, 0x25000000⟩,
     ⟨"SET_OP_KSL", 0xFF000000, 0x26000000⟩]
  ++ [⟨"SET_OP_MULT", 0xFF000000, 0x27000000⟩,
     ⟨"SET_OP_TREMOLO", 0xFF000000, 0x28000000⟩,
     ⟨"SET_OP_VIBRATO", 0xFF000000, 0x29000000⟩,
     ⟨"SET_OP_SUSFLAG", 0xFF000000, 0x2A000000⟩,
     ⟨"SET_OP_ENVSCALE", 0xFF000000, 0x2B000000⟩,
     ⟨"SET_OUTPUT", 0xFF000000, 0x30000000⟩,
     ⟨"SET_FEEDBACK", 0xFF000000, 0x31000000⟩,
     ⟨"SET_ALGORITHM", 0xFF000000, 0x32000000⟩,
     ⟨"SET_FREQ", 0x80000000, 0x80000000⟩]

/-- The instruction that the decoder reads from a table row's bits `w` (of which the table gives `nbits`): the command
word is one 32-bit word, bit 0 least significant (R80), every bit above `nbits` zero (log 16). -/
def decodeTableWord (nbits w : Nat) : Option Instr :=
  match decode Machine.cvs (BitVec.ofNat 32 (w % 2 ^ nbits)) with
  | .ok i => some i
  | .error _ => none

end Sys2Proof
end

