-- ==== Sys2Proof/Machine/Dispatch.lean ====
section
/-! DEFINITION. What each command does: one arm per constructor of `Instr`, each one call of its meaning. -/

namespace Sys2Proof.Machine

def exec (i : Instr) (s : State) : Host.Outcome State Fault Refusal :=
  match i with
  | .nop => Sys2Proof.Machine.execNop s
  | .noteOn a b c => Sys2Proof.Machine.execNoteOn a b c s
  | .noteOff a b => Sys2Proof.Machine.execNoteOff a b s
  | .ctrl a b c => Sys2Proof.Machine.execCtrl a b c s
  | .ctrlProgram a c => Sys2Proof.Machine.execCtrlProgram a c s
  | .ctrlVolume a c => Sys2Proof.Machine.execCtrlVolume a c s
  | .ctrlAlgorithm a c => Sys2Proof.Machine.execCtrlAlgorithm a c s
  | .ctrlFeedback a c => Sys2Proof.Machine.execCtrlFeedback a c s
  | .ctrlOutput a c => Sys2Proof.Machine.execCtrlOutput a c s
  | .ctrlLfoDelay a c => Sys2Proof.Machine.execCtrlLfoDelay a c s
  | .ctrlOpAttack a j c => Sys2Proof.Machine.execCtrlOpAttack a j c s
  | .ctrlOpDecay a j c => Sys2Proof.Machine.execCtrlOpDecay a j c s
  | .ctrlOpSustain a j c => Sys2Proof.Machine.execCtrlOpSustain a j c s
  | .ctrlOpRelease a j c => Sys2Proof.Machine.execCtrlOpRelease a j c s
  | .ctrlOpWaveform a j c => Sys2Proof.Machine.execCtrlOpWaveform a j c s
  | .ctrlOpLevel a j c => Sys2Proof.Machine.execCtrlOpLevel a j c s
  | .ctrlOpKsl a j c => Sys2Proof.Machine.execCtrlOpKsl a j c s
  | .ctrlOpMult a j c => Sys2Proof.Machine.execCtrlOpMult a j c s
  | .ctrlOpTremolo a j c => Sys2Proof.Machine.execCtrlOpTremolo a j c s
  | .ctrlOpVibrato a j c => Sys2Proof.Machine.execCtrlOpVibrato a j c s
  | .ctrlOpSusflag a j c => Sys2Proof.Machine.execCtrlOpSusflag a j c s
  | .ctrlOpEnvscale a j c => Sys2Proof.Machine.execCtrlOpEnvscale a j c s
  | .ctrlOpVelsens a j c => Sys2Proof.Machine.execCtrlOpVelsens a j c s
  | .ctrlSustainPedal a c => Sys2Proof.Machine.execCtrlSustainPedal a c s
  | .ctrlAllSoundOff a c => Sys2Proof.Machine.execCtrlAllSoundOff a c s
  | .ctrlAllNotesOff a c => Sys2Proof.Machine.execCtrlAllNotesOff a c s
  | .pitchBend a v => Sys2Proof.Machine.execPitchBend a v s
  | .service v => Sys2Proof.Machine.execService v s
  | .init => Sys2Proof.Machine.execInit s
  | .detect => Sys2Proof.Machine.execDetect s
  | .alloc a => Sys2Proof.Machine.execAlloc a s
  | .free a => Sys2Proof.Machine.execFree a s
  | .percEnable => Sys2Proof.Machine.execPercEnable s
  | .percDisable => Sys2Proof.Machine.execPercDisable s
  | .keyOn a => Sys2Proof.Machine.execKeyOn a s
  | .keyOff a => Sys2Proof.Machine.execKeyOff a s
  | .getOpType a b => Sys2Proof.Machine.execGetOpType a b s
  | .getOpCount a => Sys2Proof.Machine.execGetOpCount a s
  | .setOpAttack a b c => Sys2Proof.Machine.execSetOpAttack a b c s
  | .setOpDecay a b c => Sys2Proof.Machine.execSetOpDecay a b c s
  | .setOpSustain a b c => Sys2Proof.Machine.execSetOpSustain a b c s
  | .setOpRelease a b c => Sys2Proof.Machine.execSetOpRelease a b c s
  | .setOpWaveform a b c => Sys2Proof.Machine.execSetOpWaveform a b c s
  | .setOpAttenuation a b c => Sys2Proof.Machine.execSetOpAttenuation a b c s
  | .setOpKsl a b c => Sys2Proof.Machine.execSetOpKsl a b c s
  | .setOpMult a b c => Sys2Proof.Machine.execSetOpMult a b c s
  | .setOpTremolo a b c => Sys2Proof.Machine.execSetOpTremolo a b c s
  | .setOpVibrato a b c => Sys2Proof.Machine.execSetOpVibrato a b c s
  | .setOpSusflag a b c => Sys2Proof.Machine.execSetOpSusflag a b c s
  | .setOpEnvscale a b c => Sys2Proof.Machine.execSetOpEnvscale a b c s
  | .setOutput a c => Sys2Proof.Machine.execSetOutput a c s
  | .setFeedback a c => Sys2Proof.Machine.execSetFeedback a c s
  | .setAlgorithm a c => Sys2Proof.Machine.execSetAlgorithm a c s
  | .setFreq h freq => Sys2Proof.Machine.execSetFreq h freq s

end Sys2Proof.Machine
end

