-- ==== Sys2Proof/Machine/Step.lean ====
section
/-! DEFINITION. One step of the machine (spec/10_state.md R45, R46, spec/70_reset_and_hazards.md R300, R301, R307): the
host writes a command word to `CMD`, or the block runs the command in flight to completion, or the reset event comes. -/

namespace Sys2Proof.Machine

/-- The command in flight, decoded and run to completion; a reserved code is refused (R85). `run` says what each command
does. -/
def runCommand (cfg : Config.Params) (run : Instr → State → Out) (s : State) : Out :=
  match decode cfg s.cmd with
  | .ok i => run i s
  | .error _ => execReserved s

/-- The reset event while a command is in flight: it cuts the command short after `n` of its transactions (R301). -/
def resetInFlight (cfg : Config.Params) (run : Instr → State → Out) (n : Nat) (s : State) : Out :=
  match runCommand cfg run s with
  | .next t => .next (s.cutByReset cfg t n)
  | .fault r => .fault r
  | .refused r => .refused r

/-- One step. While `busy`, the command in flight runs, unless the host's next act is the reset event; otherwise the
host's next act is taken; with none the block is idle with all state held (R283, log 5, log 7). -/
def stepBy (cfg : Config.Params) (run : Instr → State → Out) (s : State) : Out :=
  match s.busy, s.inputs with
  | true, .reset n :: rest => resetInFlight cfg run n { s with inputs := rest }
  | true, _ => runCommand cfg run s
  | false, [] => .next s
  | false, .writeCmd w :: rest => .next { s with cmd := w, busy := true, inputs := rest }
  | false, .reset _ :: rest => .next ({ s with inputs := rest }.resetBlock cfg)

/-- One step under any record of parameters, which is an argument of the step and no state (R8, R20). -/
def stepWith (cfg : Config.Params) (s : State) : Out := stepBy cfg (execWith cfg) s

/-- One step at the parameter values of R8 (log 8). -/
def step (s : State) : Host.Outcome State Fault Refusal := stepBy cvs exec s

/-- The host's next act is the reset event. -/
def HostInput.isReset : HostInput → Bool
  | .reset _ => true
  | .writeCmd _ => false

/-- `s` with the host having written the command word `w` to `CMD`, so that the next step runs it; reset events that
would come before it are taken away (log 6). The word's bits at and above `nbits` are zero. -/
def State.withFetchWord (s : State) (nbits w : Nat) : State :=
  { s with
    cmd := BitVec.ofNat 32 (w % 2 ^ nbits), busy := true
    inputs := s.inputs.dropWhile HostInput.isReset }

end Sys2Proof.Machine
end

