-- ==== Sys2Proof/Safety.lean ====
section
/-! DEFINITION. The terms that claims about the machine use: the allocator invariant (spec/10_state.md R24, R25), the slot
invariant (R37), legal patches (R40), agreement of cache and chip (R30), what the block may put on the bus
(spec/20_memory.md R60, R63), the voice transitions (spec/41_voice_events.md R171), and the voices of a MIDI channel. -/

namespace Sys2Proof.Machine

/-! ### The allocator's invariant -/

/-- The primaries of `PAIRS`, the only channels that may hold FourOp (R21). -/
def isPrimary (c : PhysId) : Bool := c.val ∈ [0, 1, 2, 9, 10, 11]

/-- The secondaries of `PAIRS`, the only channels that may hold Null (R21). -/
def isSecondary (c : PhysId) : Bool := c.val ∈ [3, 4, 5, 12, 13, 14]

/-- Channels 6, 7, 8 while percussion mode is on (R24 (d)). -/
def percReserved (s : State) (c : PhysId) : Bool := s.percEnabled && (c.val == 6 || c.val == 7 || c.val == 8)

/-- The five classes of R24. -/
inductive ChannelClass where
  | allocated | free2op | free4op | percussionReserved | absorbed
  deriving DecidableEq, Repr

/-- R24's own words for each class, (a) to (e). -/
def inClass (s : State) (c : PhysId) : ChannelClass → Prop
  | .allocated =>
    s.allocd[physHandle c] = true ∧ (s.ctype[c] = .twoOp ∨ s.ctype[c] = .fourOp) ∧ s.free2[c] = false ∧ s.free4[c] = false
  | .free2op => s.free2[c] = true ∧ s.ctype[c] = .twoOp ∧ s.allocd[physHandle c] = false
  | .free4op => s.free4[c] = true ∧ s.ctype[c] = .fourOp ∧ s.allocd[physHandle c] = false
  | .percussionReserved =>
    s.percEnabled = true ∧ (c = 6 ∨ c = 7 ∨ c = 8) ∧ s.ctype[c] = .twoOp ∧ s.allocd[physHandle c] = false
      ∧ s.free2[c] = false ∧ s.free4[c] = false
  | .absorbed =>
    s.ctype[c] = .null ∧ (∃ j : PairId, cvs.pairs[j].2 = c ∧ s.ctype[cvs.pairs[j].1] = .fourOp)
      ∧ s.allocd[physHandle c] = false ∧ s.free2[c] = false ∧ s.free4[c] = false

/-- One channel's part of the allocator invariant: its type is one its number allows (R21), and exactly one class of R24
holds of it. While percussion mode is on, 6, 7 and 8 are reserved, neither allocated nor free (R127). -/
def chanOk (s : State) (c : PhysId) : Prop :=
  match s.ctype[c] with
  | .twoOp =>
    s.free4[c] = false
      ∧ (s.allocd[physHandle c]).toNat + (s.free2[c]).toNat + (percReserved s c).toNat = 1
  | .fourOp => isPrimary c = true ∧ s.free2[c] = false ∧ s.allocd[physHandle c] = !s.free4[c]
  | .null => isSecondary c = true ∧ s.allocd[physHandle c] = false ∧ s.free2[c] = false ∧ s.free4[c] = false

/-- One pair's part: the mask bit and the two types agree (R24). -/
def pairOk (s : State) (j : PairId) : Prop :=
  (s.fourOpMask.getLsbD j.val = true ↔ s.ctype[cvs.pairs[j].1] = .fourOp)
    ∧ (s.ctype[cvs.pairs[j].2] = .null ↔ s.ctype[cvs.pairs[j].1] = .fourOp)

/-- The allocator's invariant (R21, R22, R24). -/
def AllocInv (s : State) : Prop := (∀ c, chanOk s c) ∧ (∀ j, pairOk s j)

/-- The capacity in 2-op equivalents (R25). -/
def capacity (s : State) : Nat :=
  ((List.finRange 18).map (fun c =>
    (s.free2[c]).toNat + 2 * (s.free4[c]).toNat
      + (if s.allocd[physHandle c] = true ∧ s.ctype[c] = .twoOp then 1 else 0)
      + (if s.allocd[physHandle c] = true ∧ s.ctype[c] = .fourOp then 2 else 0))).sum
    + (if s.percEnabled then 3 else 0)

/-! ### Slots and patches -/

/-- The slot invariant: a bound slot's handle is allocated, and no two bound slots have one handle (R37). -/
def SlotInv (s : State) : Prop :=
  (∀ (k : SlotId) (h : Handle), s.slot[k].lchan = some h → s.allocd[h] = true)
    ∧ (∀ (k l : SlotId) (h : Handle), s.slot[k].lchan = some h → s.slot[l].lchan = some h → k = l)

/-- An unbound slot is all zero (R35), and a slot that is not releasing has accumulated no release time (R244). -/
def SlotClean (s : State) : Prop :=
  ∀ k : SlotId, (s.slot[k].lchan = none → s.slot[k] = slotReset)
    ∧ (s.slot[k].releasing = false → s.slot[k].releaseDuration = 0)

/-- The algorithms a patch type has: 0..1 for TwoOp and Kick, 0..3 for FourOp, 0 for the single-operator roles (R40). -/
def algorithmLegal (t : ChType) (a : BitVec 2) : Bool :=
  match t with
  | .twoOp | .kick => a.toNat < 2
  | .fourOp => true
  | .null | .snare | .tomTom | .cymbal | .hiHat => a.toNat = 0

/-- A legal patch: never Null, an algorithm of its type, a bend of -200..200 cents (R40). -/
def patchLegal (p : Patch) : Prop :=
  p.ctype ≠ .null ∧ algorithmLegal p.ctype p.algorithm = true ∧ -200 ≤ p.bendCents.toInt ∧ p.bendCents.toInt ≤ 200

/-- Every patch is legal (R40). -/
def PatchInv (s : State) : Prop := ∀ m : MidiId, patchLegal s.patch[m]

/-! ### Cache and chip -/

/-- What the chip's register at an address pair was last written with. -/
def chipReg (s : State) (r : SetId × Byte) : Option Byte := Memory.read s.chipRegs (chipAddr r.1 r.2)

/-- Every mirrored register has been written and holds the byte of the cache (R30). -/
def CacheAgrees (s : State) : Prop :=
  (∀ n : OperId, chipReg s (opReg n 0x20) = some (s.oper[n].flagsByte cvs)
    ∧ chipReg s (opReg n 0x40) = some (s.oper[n].levelByte cvs)
    ∧ chipReg s (opReg n 0x60) = some (s.oper[n].attackDecayByte cvs)
    ∧ chipReg s (opReg n 0x80) = some (s.oper[n].sustainReleaseByte cvs)
    ∧ chipReg s (opReg n 0xE0) = some (s.oper[n].waveByte cvs))
  ∧ (∀ c : PhysId, chipReg s (chReg c 0xA0) = some (s.chan[c].fnumLowByte cvs)
    ∧ chipReg s (chReg c 0xB0) = some (s.chan[c].keyBlockByte cvs)
    ∧ chipReg s (chReg c 0xC0) = some (s.chan[c].outputByte cvs))
  ∧ chipReg s (0, 0xBD) = some (percussionByte cvs s.percEnabled s.percKey)
  ∧ chipReg s (1, 0x04) = some (fourOpByte cvs s.fourOpMask)

/-! ### The bus -/

/-- A transaction the block may emit: a write to one of the four ports, or a read of the status port (R60, R64). -/
def BusTx.confined : BusTx → Bool
  | .write addr _ => addr == 0x388 || addr == 0x389 || addr == 0x38A || addr == 0x38B
  | .read addr _ => addr == 0x388

/-- A read transaction. -/
def BusTx.isRead : BusTx → Bool
  | .write .. => false
  | .read .. => true

/-- The two transactions of a register write `s:RR=VV` with BASE = 0x388 (R12, R63). -/
def regTx (r : SetId × Byte) (val : Byte) : List BusTx :=
  [.write (0x388 + BitVec.ofNat 16 (2 * r.1.val)) r.2, .write (0x389 + BitVec.ofNat 16 (2 * r.1.val)) val]

/-- A register write `s:RR=VV`: the register and its byte (R12). -/
abbrev RegVal := (SetId × Byte) × Byte

/-- The bus after the register writes `ws` in their order: their transactions on the trace, the index of the last one
of a set in that set's latch, and their bytes in the chip's registers (R31, R63). -/
def State.sends (s : State) (ws : List RegVal) : State :=
  { s with
    trace := s.trace ++ ws.flatMap (fun w => regTx w.1 w.2)
    latch := ws.foldl (fun l w => l.set w.1.1 w.1.2) s.latch
    chipRegs := ws.foldl (fun m w => Memory.write m (chipAddr w.1.1 w.1.2) w.2) s.chipRegs }

/-- A trace made of whole register writes and of status reads (R63, R66). -/
def wholeWrites : List BusTx → Bool
  | [] => true
  | .read addr _ :: rest => addr == 0x388 && wholeWrites rest
  | .write a _ :: .write b _ :: rest =>
    ((a == 0x388 && b == 0x389) || (a == 0x38A && b == 0x38B)) && wholeWrites rest
  | [.write ..] => false
  | .write .. :: .read .. :: _ => false

/-- What a sequence of transactions makes of the chip's two latches and its registers: an address port takes an index, a
data port stores in the register its set's latch selects (R31 (b), R62). -/
def chipReplay : List BusTx → Vector Byte 2 × List Host.Cell → Vector Byte 2 × List Host.Cell
  | [], q => q
  | .read _ _ :: rest, q => chipReplay rest q
  | .write a b :: rest, q =>
    chipReplay rest
      (if a = 0x388 then (q.1.set 0 b, q.2)
       else if a = 0x38A then (q.1.set 1 b, q.2)
       else if a = 0x389 then (q.1, Memory.write q.2 (chipAddr 0 q.1[0]) b)
       else if a = 0x38B then (q.1, Memory.write q.2 (chipAddr 1 q.1[1]) b)
       else q)

/-! ### Commands by what they may do -/

/-- The voice-manager commands: NOTE_ON, NOTE_OFF, CTRL, PITCH_BEND, SERVICE (R37). -/
def isVoiceManager : Instr → Bool
  | .noteOn .. | .noteOff .. | .ctrl .. | .ctrlProgram .. | .ctrlVolume .. | .ctrlAlgorithm .. | .ctrlFeedback ..
  | .ctrlOutput .. | .ctrlLfoDelay .. | .ctrlOpAttack .. | .ctrlOpDecay .. | .ctrlOpSustain .. | .ctrlOpRelease ..
  | .ctrlOpWaveform .. | .ctrlOpLevel .. | .ctrlOpKsl .. | .ctrlOpMult .. | .ctrlOpTremolo .. | .ctrlOpVibrato ..
  | .ctrlOpSusflag .. | .ctrlOpEnvscale .. | .ctrlOpVelsens .. | .ctrlSustainPedal .. | .ctrlAllSoundOff ..
  | .ctrlAllNotesOff .. | .pitchBend .. | .service .. => true
  | .nop | .init | .detect | .alloc .. | .free .. | .percEnable | .percDisable | .keyOn .. | .keyOff ..
  | .getOpType .. | .getOpCount .. | .setOpAttack .. | .setOpDecay .. | .setOpSustain .. | .setOpRelease ..
  | .setOpWaveform .. | .setOpAttenuation .. | .setOpKsl .. | .setOpMult .. | .setOpTremolo .. | .setOpVibrato ..
  | .setOpSusflag .. | .setOpEnvscale .. | .setOutput .. | .setFeedback .. | .setAlgorithm .. | .setFreq .. => false

/-- A byte operand names a MIDI channel. -/
def names (a : Byte) (m : MidiId) : Bool := a.toNat == m.val

/-- NOTE_OFF matches the slot, or ALL_NOTES_OFF is for its MIDI channel (R179, R223). -/
def asksRelease (i : Instr) (k : Slot) : Bool :=
  match i with
  | .noteOff a b => names a k.midiCh && b.toNat == k.note.toNat
  | .ctrlAllNotesOff a _ => names a k.midiCh
  | _ => false

/-- SUSTAIN_PEDAL with a value below 64 for the slot's MIDI channel (R221). -/
def raisesPedal (i : Instr) (k : Slot) : Bool :=
  match i with
  | .ctrlSustainPedal a c => names a k.midiCh && c.toNat < 64
  | _ => false

/-- PROGRAM or ALL_SOUND_OFF for the slot's MIDI channel: the two commands that force silence (R171). -/
def forcesSilence (i : Instr) (k : Slot) : Bool :=
  match i with
  | .ctrlProgram a _ | .ctrlAllSoundOff a _ => names a k.midiCh
  | _ => false

/-- The table of R171: whether command `i` may move a voice from slot contents `k`, with its MIDI channel's pedal
`pedal`, to the state `v`; a voice may always stay as it is. -/
def moveAllowed (i : Instr) (k : Slot) (pedal : Bool) (v : VoiceState) : Bool :=
  match k.voice, v with
  | .free, .playing => match i with | .noteOn .. => true | _ => false
  | .playing, .releasing => asksRelease i k && !pedal
  | .playing, .sustained => asksRelease i k && pedal
  | .sustained, .releasing => (asksRelease i k && !pedal) || raisesPedal i k
  | .releasing, .free => forcesSilence i k || (match i with | .service .. | .noteOn .. => true | _ => false)
  | .playing, .free | .sustained, .free => forcesSilence i k
  | .free, .free | .playing, .playing | .sustained, .sustained | .releasing, .releasing => true
  | .free, .sustained | .free, .releasing | .sustained, .playing | .releasing, .playing | .releasing, .sustained => false

/-! ### The voices of a MIDI channel -/

/-- The bound voices of MIDI channel `m` that `sel` selects, in slot order, each with its handle (R170). -/
def voicesOf (s : State) (m : MidiId) (sel : Slot → Bool) : List (SlotId × Handle) :=
  allSlots.filterMap (fun k =>
    match s.slot[k].lchan with
    | none => none
    | some h => if s.slot[k].midiCh = m ∧ sel s.slot[k] = true then some (k, h) else none)

/-- The operator of index `i` of every such voice whose handle is allocated, in slot order (R200, R207, R311). -/
def voiceOpers (s : State) (m : MidiId) (sel : Slot → Bool) (i : Nat) : List OperId :=
  (voicesOf s m sel).filterMap (fun kh => if s.allocd[kh.2] = true then (opsOf cvs s kh.2)[i]? else none)

/-- The handles of such voices, in slot order, but for those that are not allocated, whose procedure calls are skipped
(R311). -/
def heldHandles (s : State) (m : MidiId) (sel : Slot → Bool) : List Handle :=
  (voicesOf s m sel).filterMap (fun kh => if s.allocd[kh.2] = true then some kh.2 else none)

/-- The slot is one of those voices. -/
def chosen (m : MidiId) (sel : Slot → Bool) (k : Slot) : Bool := k.lchan.isSome && k.midiCh == m && sel k

/-! ### What the commands compute, in the words of their rules -/

/-- The attenuation of one operator: template, velocity, channel volume, and whether it is a carrier (R175). -/
def attenuation (T : Template) (vel : BitVec 7) (volume : BitVec 6) (carrier : Bool) : Nat :=
  let range := T.level.toNat * T.velSens.toNat / 63
  let level := T.level.toNat - range + vel.toNat / 2 * range / 63
  63 - (if carrier then level * volume.toNat / 63 else level)

/-- The attenuation of the voice in slot `k` on handle `h` at operator index `i` in state `s` (R175). -/
def voiceAttenuation (s : State) (k : SlotId) (h : Handle) (i : Fin 4) : BitVec 6 :=
  let P := s.patch[s.slot[k].midiCh]
  BitVec.ofNat 6 (attenuation P.op[i] s.slot[k].velocity P.volume (opType cvs s h i.val = .carrier))

/-- What `ProgramOperator` makes of an operator: the template's fields, the modulation flags 0, the attenuation (R174). -/
def programmed (P : Patch) (vel : BitVec 7) (i : Fin 4) (carrier : Bool) : Oper :=
  let T := P.op[i]
  { trem := 0, vib := 0, sus := T.sus, ksr := T.ksr, mult := T.mult, ksl := T.ksl
    tl := BitVec.ofNat 6 (attenuation T vel P.volume carrier)
    ar := T.ar, dr := T.dr, sl := T.sl, rr := T.rr, ws := T.ws }

/-- The five register writes of an operator, in `ProgramOperator`'s order (R174). -/
def operWrites (n : OperId) (o : Oper) : List RegVal :=
  [(opReg n 0x20, o.flagsByte cvs), (opReg n 0x40, o.levelByte cvs), (opReg n 0x60, o.attackDecayByte cvs),
   (opReg n 0x80, o.sustainReleaseByte cvs), (opReg n 0xE0, o.waveByte cvs)]

/-- A channel's cache entry with the frequency of a value in centihertz (R129). -/
def Chan.tuned (x : Chan) (freq : Nat) : Chan :=
  { x with fnum := BitVec.ofNat 10 (freqNumber cvs freq), block := BitVec.ofNat 3 (freqBlock cvs freq) }

/-- The two register writes of a frequency, from the channel's new cache entry (R129). -/
def freqWrites (c : PhysId) (x : Chan) : List RegVal := [(chReg c 0xA0, x.fnumLowByte cvs), (chReg c 0xB0, x.keyBlockByte cvs)]

/-- A channel's cache entry with its key bit set or cleared (R130, R131). -/
def Chan.keyed (x : Chan) (on : BitVec 1) : Chan := { x with keyOn := on }

/-- The key-off writes of handles, in order: a physical channel's 0xB0 register, or 0:BD with the keys still on
(R131, R177). -/
def keyOffWrites (s : State) : Vector Bool 5 → List Handle → List RegVal
  | _, [] => []
  | key, h :: hs =>
    match physOrRole h with
    | .inl c => (chReg c 0xB0, (s.chan[c].keyed 0).keyBlockByte cvs) :: keyOffWrites s key hs
    | .inr r => ((0, 0xBD), percussionByte cvs s.percEnabled (key.set r false)) :: keyOffWrites s (key.set r false) hs

/-- The state after the key-off of handles, but for their slots (R131). -/
def State.keyedOff (s : State) (hs : List Handle) : State :=
  { s with
    chan := Vector.ofFn (fun c => if physHandle c ∈ hs then s.chan[c].keyed 0 else s.chan[c])
    percKey := Vector.ofFn (fun r => if roleHandle r ∈ hs then false else s.percKey[r]) }.sends
    (keyOffWrites s s.percKey hs)

/-- Every slot that `sel` selects is changed by `f`, every other stays. -/
def State.mapSlots (s : State) (sel : Slot → Bool) (f : Slot → Slot) : State :=
  { s with slot := s.slot.map (fun k => if sel k then f k else k) }

/-- `Release` on a slot (R177). -/
def Slot.released (k : Slot) : Slot := { k with releasing := true, sustained := false }

/-- A handle given back: its type's pool takes it, a role joins none (R126). -/
def State.freed (s : State) (h : Handle) : State :=
  match physOrRole h with
  | .inl c =>
    { s with
      allocd := s.allocd.set h false
      free2 := if s.ctype[c] = .twoOp then s.free2.set c true else s.free2
      free4 := if s.ctype[c] = .fourOp then s.free4.set c true else s.free4 }
  | .inr _ => { s with allocd := s.allocd.set h false }

/-- The state after the steal of the voice in slot `v` on handle `h`: its handle freed unless it was free already, its
slot unbound (R178, R311). -/
def State.stolen (s : State) (v : SlotId) (h : Handle) : State :=
  let s' := if s.allocd[h] = true then s.freed h else s
  { s' with slot := s'.slot.set v slotReset }

/-- The attenuations `ts` written to operators, in order (R138). -/
def State.attenuate (s : State) (ts : List (OperId × BitVec 6)) : State :=
  State.sends
    { s with oper := ts.foldl (fun (o : Vector Oper 36) (t : OperId × BitVec 6) => o.set t.1 { o[t.1] with tl := t.2 }) s.oper }
    (ts.map (fun t => (opReg t.1 0x40, Oper.levelByte cvs { s.oper[t.1] with tl := t.2 })))

/-- The end of a SET_OP_* command: the operator's new cache entry, and the one register write (R132). -/
def State.operSet (s : State) (n : OperId) (o : Oper) (reg byte : Byte) : State :=
  (State.sends { s with oper := s.oper.set n o } [(opReg n reg, byte)]).answer .ok 1

/-- For every bound voice of a MIDI channel whose handle is allocated, in slot order, and every operator index that `sel`
selects, ascending: the operator and its attenuation (R175, R202, R213). -/
def attenTargets (s : State) (m : MidiId) (sel : Handle → Fin 4 → Bool) : List (OperId × BitVec 6) :=
  (voicesOf s m (fun _ => true)).flatMap (fun kh =>
    if s.allocd[kh.2] = true then
      (opIndices cvs s kh.2).filterMap (fun i =>
        if sel kh.2 i then ((opsOf cvs s kh.2)[i.val]?).map (fun n => (n, voiceAttenuation s kh.1 kh.2 i)) else none)
    else [])

/-- An operator-field controller: the template of index `i` of the channel's patch becomes `T`, and `put` is applied to the
operator of that index of every chosen voice, with one write of register base `reg` each (R207). -/
def State.operCtrl (s : State) (m : MidiId) (i : Fin 4) (sel : Slot → Bool) (T : Template) (put : Oper → Oper) (reg : Byte)
    (byte : Oper → Byte) : State :=
  (State.sends
    { s with
      patch := s.patch.set m { s.patch[m] with op := s.patch[m].op.set i T }
      oper := (voiceOpers s m sel i.val).foldl (fun (o : Vector Oper 36) (n : OperId) => o.set n (put o[n])) s.oper }
    ((voiceOpers s m sel i.val).map (fun n => (opReg n reg, byte (put s.oper[n]))))).answer .ok 0

/-- `put` applied to the cache entries of channels, in order, with one write of the 0xC0-base register each (R103). -/
def State.connect (s : State) (cs : List PhysId) (put : Chan → Chan) : State :=
  State.sends
    { s with chan := cs.foldl (fun (x : Vector Chan 18) (c : PhysId) => x.set c (put x[c])) s.chan }
    (cs.map (fun c => (chReg c 0xC0, (put s.chan[c]).outputByte cvs)))

/-- The operators of a handle whose template requests modulation, with the two flags requested (R243). -/
def lfoTargets (s : State) (P : Patch) (h : Handle) : List (OperId × BitVec 1 × BitVec 1) :=
  (opIndices cvs s h).filterMap (fun i =>
    if P.op[i].trem = 1 ∨ P.op[i].vib = 1 then ((opsOf cvs s h)[i.val]?).map (fun n => (n, P.op[i].trem, P.op[i].vib)) else none)

/-- An operator with its two modulation flags (R243). -/
def Oper.modulated (o : Oper) (trem vib : BitVec 1) : Oper := { o with trem := trem, vib := vib }

/-- The slowest release rate of a handle's operators, where it has operators (R245). -/
def slowest (s : State) (h : Handle) : Option Nat := ((opsOf cvs s h).map (fun n => s.oper[n].rr.toNat)).min?

/-- A release rate and an accumulated release time at which the voice is freed: `RELEASE_MS` exceeded, and not rate 0
(R246, R247). -/
def releaseOver (r : Nat) (elapsed : Nat) : Bool :=
  r != 0
    && decide (([0, 32000, 19641, 9821, 4911, 2456, 1228, 614, 307, 154, 77, 39, 20, 10, 5, 3] : List Nat).getD r 0 < elapsed)

/-- A saturating counter after `delta` milliseconds (R242, R244). -/
def counted (d : BitVec 15) (delta : BitVec 16) : BitVec 15 := BitVec.ofNat 15 (min 32767 (d.toNat + delta.toNat))

/-- A bound slot after a SERVICE that does not free it (R242 to R244). -/
def Slot.serviced (x : Slot) (P : Patch) (delta : BitVec 16) : Slot :=
  { x with
    duration := counted x.duration delta
    lfoTriggered := x.lfoTriggered || decide (P.lfoDelay.toNat * 32 < (counted x.duration delta).toNat)
    releaseDuration := if x.releasing then counted x.releaseDuration delta else x.releaseDuration }

/-- The writes of `ForceSilence` to the operators `ns`: attenuation 63, then release 15, of each (R176). -/
def silenceWrites (s : State) (ns : List OperId) : List RegVal :=
  ns.flatMap (fun n =>
    [(opReg n 0x40, Oper.levelByte cvs { s.oper[n] with tl := 63 }),
     (opReg n 0x80, Oper.sustainReleaseByte cvs { s.oper[n] with rr := 15 })])

/-- The channel whose registers handle `h` uses, as a forced silence leaves it: frequency 0, and for a physical channel the
key bit 0; a role's key bit stands in 0:BD (R176). -/
def silentChan (s : State) (h : Handle) : Chan :=
  { s.chan[physChan cvs h] with fnum := 0, block := 0, keyOn := if h.val < 18 then 0 else s.chan[physChan cvs h].keyOn }

/-- `ForceSilence` of the voice in slot `k` on handle `h`: key-off, attenuation 63 and release 15 of every operator,
frequency 0, in this order; the handle given back and the slot unbound (R176). Of a handle that is not allocated every
call is refused and skipped, and the slot is unbound (R311, log 10). -/
def State.silenced (s : State) (k : SlotId) (h : Handle) : State :=
  if s.allocd[h] = true then
    State.sends
      { s.freed h with
        slot := s.slot.set k slotReset
        chan := s.chan.set (physChan cvs h) (silentChan s h)
        percKey := Vector.ofFn (fun r => if h = roleHandle r then false else s.percKey[r])
        oper := (opsOf cvs s h).foldl (fun (o : Vector Oper 36) (n : OperId) => o.set n { o[n] with tl := 63, rr := 15 }) s.oper }
      (keyOffWrites s s.percKey [h] ++ silenceWrites s (opsOf cvs s h) ++ freqWrites (physChan cvs h) (silentChan s h))
  else { s with slot := s.slot.set k slotReset }

/-- The operators of the voice in slot `k` on handle `h` with their attenuations, ascending (R175). -/
def voiceTargets (s : State) (k : SlotId) (h : Handle) : List (OperId × BitVec 6) :=
  (opIndices cvs s h).filterMap (fun i => ((opsOf cvs s h)[i.val]?).map (fun n => (n, voiceAttenuation s k h i)))

/-- The connection bits of handle `h` set from an algorithm, where its type has that algorithm (R147). -/
def State.connected (s : State) (h : Handle) (alg : BitVec 2) : State :=
  let p := physChan cvs h
  match ctypeOf s h with
  | .twoOp | .kick => if alg.toNat < 2 then s.connect [p] (fun x => { x with cnt := alg.extractLsb' 0 1 }) else s
  | .fourOp =>
    (s.connect [p] (fun x => { x with cnt := alg.extractLsb' 1 1 })).connect [p + 3]
      (fun x => { x with cnt := alg.extractLsb' 0 1 })
  | .null | .snare | .tomTom | .cymbal | .hiHat => s

/-- Step (b) of ALGORITHM for the voice in slot `k` on handle `h`: the connection bits, then every attenuation of the voice,
as the new connection makes its operators carriers (R203). Of a handle that is not allocated nothing is written
(R311). -/
def State.algorithmVoice (alg : BitVec 2) (s : State) (k : SlotId) (h : Handle) : State :=
  if s.allocd[h] = true then (s.connected h alg).attenuate (voiceTargets (s.connected h alg) k h) else s

/-- The operators that SERVICE gives their modulation flags for the voice in slot `k` on handle `h`: none, unless the start
delay is exceeded for the first time (R243). -/
def lfoDue (s : State) (v : BitVec 16) (k : SlotId) (h : Handle) : List (OperId × BitVec 1 × BitVec 1) :=
  let P := s.patch[s.slot[k].midiCh]
  if s.slot[k].lfoTriggered = false ∧ P.lfoDelay.toNat * 32 < (counted s.slot[k].duration v).toNat then lfoTargets s P h else []

/-- SERVICE's first three steps for the voice in slot `k` on handle `h`: its counters, its LFO flag, and the modulation flags
with one register write for each operator, ascending (R242 to R244). They are no procedure calls, so they are made of a
handle that is not allocated too (log 9). -/
def State.timed (s : State) (v : BitVec 16) (k : SlotId) (h : Handle) : State :=
  State.sends
    { s with
      slot := s.slot.set k (s.slot[k].serviced s.patch[s.slot[k].midiCh] v)
      oper := (lfoDue s v k h).foldl (fun (o : Vector Oper 36) q => o.set q.1 (o[q.1].modulated q.2.1 q.2.2)) s.oper }
    ((lfoDue s v k h).map (fun q => (opReg q.1 0x20, (s.oper[q.1].modulated q.2.1 q.2.2).flagsByte cvs)))

/-- The release time of a handle's slowest operator is exceeded (R245 to R247). -/
def overdue (s : State) (h : Handle) (elapsed : Nat) : Bool :=
  match slowest s h with
  | some r => releaseOver r elapsed
  | none => false

/-- SERVICE for one slot: a bound one has its four steps, of which the last frees a Releasing voice whose release time is
exceeded (R241 to R247). -/
def State.serviceSlot (v : BitVec 16) (s : State) (k : SlotId) : State :=
  match s.slot[k].lchan with
  | none => s
  | some h =>
    if s.slot[k].releasing = true ∧ overdue s h (counted s.slot[k].releaseDuration v).toNat = true then
      (s.timed v k h).silenced k h
    else s.timed v k h

/-- The register writes of INIT (R261 steps 2 to 6): 1:05, 1:04, 0:BD; B0, A0, C0 of every channel; 20, 40, 60, 80, E0 of
every operator. -/
def initRegisters : List RegVal :=
  [((1, 0x05), 0x01), ((1, 0x04), 0x00), ((0, 0xBD), 0x00)]
    ++ (List.finRange 18).flatMap (fun c => [(chReg c 0xB0, 0x00), (chReg c 0xA0, 0x00), (chReg c 0xC0, 0x00)])
    ++ (List.finRange 36).flatMap (fun n =>
      [(opReg n 0x20, 0x00), (opReg n 0x40, 0x3F), (opReg n 0x60, 0x00), (opReg n 0x80, 0x0F), (opReg n 0xE0, 0x00)])

/-- The registers that R64 names, but for the two of DETECT. -/
def blockRegister (r : SetId × Byte) : Prop :=
  (∃ n : OperId, ∃ b ∈ ([0x20, 0x40, 0x60, 0x80, 0xE0] : List Byte), r = opReg n b)
    ∨ (∃ c : PhysId, ∃ b ∈ ([0xA0, 0xB0, 0xC0] : List Byte), r = chReg c b)
    ∨ r = (0, 0xBD) ∨ r = (1, 0x04) ∨ r = (1, 0x05)

/-- The table of reset values (R50), with `PATCH_DEFAULT` (R41). -/
def HoldsResetValues (s : State) : Prop :=
  (∀ c : PhysId, s.ctype[c] = .twoOp) ∧ (∀ h : Handle, s.allocd[h] = false)
  ∧ (∀ c : PhysId, s.free2[c] = true) ∧ (∀ c : PhysId, s.free4[c] = false)
  ∧ s.percEnabled = false ∧ (∀ r : RoleId, s.percKey[r] = false) ∧ s.fourOpMask = 0
  ∧ (∀ c : PhysId, s.chan[c] = { fnum := 0, block := 0, keyOn := 0, out := 0, fb := 0, cnt := 0 })
  ∧ (∀ n : OperId, s.oper[n] =
      { trem := 0, vib := 0, sus := 0, ksr := 0, mult := 0, ksl := 0
        tl := 63, ar := 0, dr := 0, sl := 0, rr := 15, ws := 0 })
  ∧ (∀ m : MidiId, s.patch[m].ctype = .twoOp ∧ s.patch[m].algorithm = 0 ∧ s.patch[m].out = 0b0011 ∧ s.patch[m].fb = 0
      ∧ s.patch[m].volume = 63 ∧ s.patch[m].bendCents = 0 ∧ s.patch[m].pedal = false ∧ s.patch[m].lfoDelay = 0
      ∧ ∀ i : Fin 4, s.patch[m].op[i] =
        { ar := 11, dr := 1, sl := 5, rr := 7, ws := 0, level := 63, ksl := 0, mult := 1
          trem := 0, vib := 0, sus := 1, ksr := 0, velSens := 32 })
  ∧ (∀ k : SlotId, s.slot[k] =
      { midiCh := 0, note := 0, velocity := 0, lchan := none, duration := 0, releaseDuration := 0
        releasing := false, sustained := false, lfoTriggered := false })
  ∧ s.result = 0x0000 ∧ s.busy = false

/-- The bits of a command word that select the command or are one of its used fields (R81, R83). -/
def usedBits : Instr → Word
  | .nop | .init | .detect | .percEnable | .percDisable => 0xFF000000
  | .noteOff .. | .getOpType .. => 0xFFFFFF00
  | .service .. => 0xFF00FFFF
  | .alloc .. | .free .. | .keyOn .. | .keyOff .. | .getOpCount .. => 0xFFFF0000
  | .setOutput .. | .setFeedback .. | .setAlgorithm .. => 0xFFFF00FF
  | .noteOn .. | .ctrl .. | .ctrlProgram .. | .ctrlVolume .. | .ctrlAlgorithm .. | .ctrlFeedback .. | .ctrlOutput ..
  | .ctrlLfoDelay .. | .ctrlOpAttack .. | .ctrlOpDecay .. | .ctrlOpSustain .. | .ctrlOpRelease .. | .ctrlOpWaveform ..
  | .ctrlOpLevel .. | .ctrlOpKsl .. | .ctrlOpMult .. | .ctrlOpTremolo .. | .ctrlOpVibrato .. | .ctrlOpSusflag ..
  | .ctrlOpEnvscale .. | .ctrlOpVelsens .. | .ctrlSustainPedal .. | .ctrlAllSoundOff .. | .ctrlAllNotesOff ..
  | .pitchBend .. | .setOpAttack .. | .setOpDecay .. | .setOpSustain .. | .setOpRelease .. | .setOpWaveform ..
  | .setOpAttenuation .. | .setOpKsl .. | .setOpMult .. | .setOpTremolo .. | .setOpVibrato .. | .setOpSusflag ..
  | .setOpEnvscale .. | .setFreq .. => 0xFFFFFFFF

/-- The channel and value operands of a controller of the map (R88, R200). -/
def ctrlOperands : Instr → Option (Byte × Byte)
  | .ctrlProgram a c | .ctrlVolume a c | .ctrlAlgorithm a c | .ctrlFeedback a c | .ctrlOutput a c | .ctrlLfoDelay a c
  | .ctrlSustainPedal a c | .ctrlAllSoundOff a c | .ctrlAllNotesOff a c => some (a, c)
  | .ctrlOpAttack a _ c | .ctrlOpDecay a _ c | .ctrlOpSustain a _ c | .ctrlOpRelease a _ c | .ctrlOpWaveform a _ c
  | .ctrlOpLevel a _ c | .ctrlOpKsl a _ c | .ctrlOpMult a _ c | .ctrlOpTremolo a _ c | .ctrlOpVibrato a _ c
  | .ctrlOpSusflag a _ c | .ctrlOpEnvscale a _ c | .ctrlOpVelsens a _ c => some (a, c)
  | _ => none

/-- The MIDI channel operand of NOTE_ON, NOTE_OFF, CTRL and PITCH_BEND (R82). -/
def midiOperand : Instr → Option Byte
  | .noteOn a _ _ | .noteOff a _ | .ctrl a _ _ | .pitchBend a _ => some a
  | i => (ctrlOperands i).map (·.1)

/-- The handle operand of a mutating command (R121). -/
def handleOperand : Instr → Option Nat
  | .free a | .keyOn a | .keyOff a | .setOutput a _ | .setFeedback a _ | .setAlgorithm a _ => some a.toNat
  | .setOpAttack a _ _ | .setOpDecay a _ _ | .setOpSustain a _ _ | .setOpRelease a _ _ | .setOpWaveform a _ _
  | .setOpAttenuation a _ _ | .setOpKsl a _ _ | .setOpMult a _ _ | .setOpTremolo a _ _ | .setOpVibrato a _ _
  | .setOpSusflag a _ _ | .setOpEnvscale a _ _ => some a.toNat
  | .setFreq h _ => some h.toNat
  | _ => none

/-- The operator index, value and field width of a SET_OP_* command (R133 to R144). -/
def setOpOperands : Instr → Option (Byte × Byte × Nat)
  | .setOpAttack _ b c | .setOpDecay _ b c | .setOpSustain _ b c | .setOpRelease _ b c | .setOpMult _ b c => some (b, c, 4)
  | .setOpWaveform _ b c => some (b, c, 3)
  | .setOpAttenuation _ b c => some (b, c, 6)
  | .setOpKsl _ b c => some (b, c, 2)
  | .setOpTremolo _ b c | .setOpVibrato _ b c | .setOpSusflag _ b c | .setOpEnvscale _ b c => some (b, c, 1)
  | _ => none

/-- A command that allocates a channel (R27). -/
def allocates : Instr → Bool
  | .alloc _ | .noteOn .. => true
  | _ => false

/-- A command that may give a handle out or take it back: ALLOC and FREE, NOTE_ON, the two forced silences of a MIDI
channel, SERVICE (R150, R172, R176). -/
def movesHandles : Instr → Bool
  | .alloc _ | .free _ | .noteOn .. | .ctrlProgram .. | .ctrlAllSoundOff .. | .service _ => true
  | _ => false

/-- A command that writes patches: CTRL and PITCH_BEND (R40, R181). -/
def writesPatches (i : Instr) : Bool :=
  match i with
  | .pitchBend .. => true
  | _ => (ctrlOperands i).isSome

end Sys2Proof.Machine
end

