-- ==== Sys2Proof/Certificates/Slice0/Obligations.lean ====
section
/-! DEFINITION. The statements for the provers. `exec i s = .next t` says that command `i` runs to completion in `t`;
`s.answer c v` is `s` with `RESULT = {c, v}` and `busy = 0`, `s.sends ws` is `s` after the register writes `ws` in their
order; `cvs` is the record of parameters at the values of R8. A statement that gives the whole next state is its own frame:
every field that is not named is that of `s`. -/

open Sys2Proof Sys2Proof.Machine

/-! ### Encoding -/

/-- Every well-formed command, with every operand at every value, decodes from its own word (R80, R81, R88, R112). -/
def Obligations.DecodeEncode : Prop := ∀ i : Instr, i.wf cvs = true → decode cvs (encode cvs i) = .ok i

/-- A word's command is the row of spec/opcode_table.json with the longest mask that matches it, and a word that no row
matches is rejected (R88). -/
def Obligations.DecodeLongestRow : Prop :=
  ∀ w : Word,
    (∀ i, decode cvs w = .ok i →
      i.wf cvs = true ∧ i.row ∈ opcodeRows ∧ i.row.selects w = true
        ∧ ∀ r ∈ opcodeRows, r.selects w = true → r = i.row ∨ (r.mask &&& i.row.mask = r.mask ∧ r.mask ≠ i.row.mask))
    ∧ ((∃ e, decode cvs w = .error e) ↔ ∀ r ∈ opcodeRows, r.selects w = false)

/-- Fields that a command does not use are ignored (R83). -/
def Obligations.UnusedFieldsIgnored : Prop :=
  ∀ (w w' : Word) (i : Instr), decode cvs w = .ok i →
    encode cvs i = w &&& usedBits i ∧ (w' &&& usedBits i = w &&& usedBits i → decode cvs w' = .ok i)

/-- The reserved codes, what they do, and that an unassigned controller is no reserved code (R85). -/
def Obligations.ReservedCodes : Prop :=
  (∀ w : Word, (∃ e, decode cvs w = .error e) ↔
    (0x08 ≤ w.toNat / 2 ^ 24 ∧ w.toNat / 2 ^ 24 ≤ 0x0F) ∨ (0x18 ≤ w.toNat / 2 ^ 24 ∧ w.toNat / 2 ^ 24 ≤ 0x1F)
      ∨ (0x2C ≤ w.toNat / 2 ^ 24 ∧ w.toNat / 2 ^ 24 ≤ 0x2F) ∨ (0x33 ≤ w.toNat / 2 ^ 24 ∧ w.toNat / 2 ^ 24 ≤ 0x7F))
  ∧ (∀ (s : State) (e : DecodeReject), s.busy = true → (∀ n rest, s.inputs ≠ .reset n :: rest) →
    decode cvs s.cmd = .error e → step s = .next { s with result := 0x0500, busy := false })
  ∧ (∀ (w : Word) (a b c : Byte) (s : State), decode cvs w = .ok (.ctrl a b c) →
    exec (.ctrl a b c) s = .next { s with result := 0x0200, busy := false })

/-- Words written out from the spec decode to the commands that the spec spells (R110 to R112). -/
def Obligations.DecodedWords : Prop :=
  decode cvs 0x01003C64 = .ok (.noteOn 0 60 100) ∧ decode cvs 0x03000700 = .ok (.ctrlVolume 0 0)
  ∧ decode cvs 0x04002000 = .ok (.pitchBend 0 8192) ∧ decode cvs 0x0500000A = .ok (.service 10)
  ∧ decode cvs 0x10030000 = .ok (.alloc 3) ∧ decode cvs 0xBC00ABE0 = .ok (.setFreq 15 44000)
  ∧ decode cvs 0x0300340F = .ok (.ctrlOpSusflag 0 0 15) ∧ decode cvs 0x200F000B = .ok (.setOpAttack 15 0 11)

/-! ### The step -/

/-- A step with a command in flight runs the decoded command: `step` adds nothing around `exec` (R45, R46). The word
that `withFetchWord` places is the command in flight. The model's choice: a command is one step (DEDUCED, log 19) after
its acceptance (DEDUCED, log 5), and a program comes to run by the host's write of `CMD`, for which `withFetchWord`
stands (DESIGN CHOICE, log 6). `exec` and `step` are the machine `execWith`, `stepWith`, whose argument is the record of
parameters (R8, R20), at the values of R8. -/
def Obligations.StepRunsCommand : Prop :=
  (∀ (s : State) (i : Instr), s.busy = true → (∀ n rest, s.inputs ≠ .reset n :: rest) → decode cvs s.cmd = .ok i →
    step s = exec i s)
  ∧ (∀ (s : State) (nbits w : Nat) (i : Instr), decode cvs (BitVec.ofNat 32 (w % 2 ^ nbits)) = .ok i →
    step (s.withFetchWord nbits w) = exec i (s.withFetchWord nbits w))
  ∧ (∀ (i : Instr) (s : State), exec i s = execWith cvs i s) ∧ (∀ s : State, step s = stepWith cvs s)

/-- Between commands the block takes the host's next act, and is idle when there is none: a command word goes to `CMD`
and raises `busy`; with no act all state is held (R45, R283, R300). -/
def Obligations.StepTakesInput : Prop :=
  (∀ (s : State) (w : Word) (rest : List HostInput), s.busy = false → s.inputs = .writeCmd w :: rest →
    step s = .next { s with cmd := w, busy := true, inputs := rest })
  ∧ (∀ s : State, s.busy = false → s.inputs = [] → step s = .next s)

/-- The reset event: between commands, and while a command is in flight, of which the first `n` transactions have then
been made; every state element takes its reset value, and the event itself makes no transaction (R301, R50). -/
def Obligations.ResetEvent : Prop :=
  (∀ (s : State) (n : Nat) (rest : List HostInput), s.busy = false → s.inputs = .reset n :: rest →
    ∃ t, step s = .next t ∧ HoldsResetValues t ∧ t.trace = s.trace ∧ t.inputs = rest ∧ t.chipRegs = s.chipRegs
      ∧ t.latch = s.latch)
  ∧ (∀ (s : State) (n : Nat) (rest : List HostInput), s.busy = true → s.inputs = .reset n :: rest →
    ∃ t u d, step s = .next t ∧ HoldsResetValues t ∧ runCommand cvs exec { s with inputs := rest } = .next u
      ∧ u.trace = s.trace ++ d ∧ t.trace = s.trace ++ d.take n ∧ t.inputs = rest
      ∧ (t.latch, t.chipRegs) = chipReplay (d.take n) (s.latch, s.chipRegs))

/-- Every command completes, with a code of the taxonomy, and leaves the command port free: nothing halts the block
(R45, R270, R271). NOP, SERVICE, INIT and DETECT are never refused (R272). The model's choice, and no rule's: no command
changes `CMD`, INIT among them (DEDUCED, log 7), nor the list of the host's further acts (DEDUCED, log 5). The same holds
under every other record of parameters (R8, R20). -/
def Obligations.EveryCommandCompletes : Prop :=
  (∀ (i : Instr) (s : State), ∃ t, exec i s = .next t ∧ t.busy = false ∧ (t.result.extractLsb' 8 8 : Byte).toNat ≤ 5
    ∧ t.cmd = s.cmd ∧ t.inputs = s.inputs
    ∧ (i = .nop ∨ (∃ v, i = .service v) ∨ i = .init ∨ i = .detect → (t.result.extractLsb' 8 8 : Byte) = 0))
  ∧ ∀ (cfg : Config.Params) (i : Instr) (s : State), ∃ t, execWith cfg i s = .next t ∧ t.busy = false
    ∧ (t.result.extractLsb' 8 8 : Byte).toNat ≤ 5 ∧ t.cmd = s.cmd ∧ t.inputs = s.inputs
    ∧ (i = .nop ∨ (∃ v, i = .service v) ∨ i = .init ∨ i = .detect → (t.result.extractLsb' 8 8 : Byte) = 0)

/-! ### The bus and the chip's registers -/

/-- A register write is exactly two transactions, select and data, both always made (R63); and so it is wherever the four
ports stand (R62, R67). -/
def Obligations.RegisterWrite : Prop :=
  (∀ (x : SetId) (reg val : Byte) (s : State), regWrite cvs x reg val s = { s with
    trace := s.trace ++ [.write (0x388 + BitVec.ofNat 16 (2 * x.val)) reg, .write (0x389 + BitVec.ofNat 16 (2 * x.val)) val]
    latch := s.latch.set x reg
    chipRegs := Memory.write s.chipRegs (256 * x.val + reg.toNat) val })
  ∧ ∀ (cfg : Config.Params) (x : SetId) (reg val : Byte) (s : State), regWrite cfg x reg val s = { s with
    trace := s.trace ++ [.write (cfg.base + BitVec.ofNat 16 (2 * x.val)) reg,
      .write (cfg.base + BitVec.ofNat 16 (2 * x.val + 1)) val]
    latch := s.latch.set x reg
    chipRegs := Memory.write s.chipRegs (256 * x.val + reg.toNat) val }

/-- The trace only grows, by transactions on `BASE` to `BASE + 3`, and the chip's latches and registers are what those
transactions make of them: a chip register that no transaction selects keeps its byte (R31, R60, R70, R267). -/
def Obligations.ChipFollowsTrace : Prop :=
  ∀ s t : State, step s = .next t → ∃ d : List BusTx, t.trace = s.trace ++ d ∧ (∀ x ∈ d, x.confined = true)
    ∧ (t.latch, t.chipRegs) = chipReplay d (s.latch, s.chipRegs)

/-- A command other than DETECT makes whole register writes of the registers that R64 names, and no bus read; a chip
register that none of them names reads as before. -/
def Obligations.RegistersWritten : Prop :=
  ∀ (i : Instr) (s t : State), i ≠ .detect → exec i s = .next t →
    ∃ ws : List RegVal, t.trace = s.trace ++ ws.flatMap (fun w => regTx w.1 w.2) ∧ (∀ w ∈ ws, blockRegister w.1)
      ∧ (∀ r, (∀ w ∈ ws, w.1 ≠ r) → chipReg t r = chipReg s r)

/-- The register addresses of channels and operators, with the two gaps (R105, R106), the bits of the eight per-operator
and per-channel registers (R96 to R103), and the bytes of 0:BD and 1:04: percussion enable in bit 5 above the five role
keys, and the mask with bit `j` for pair `j`. -/
def Obligations.RegisterEncoding : Prop :=
  (∀ (c : PhysId) (b : Byte), b = 0xA0 ∨ b = 0xB0 ∨ b = 0xC0 →
    (chReg c b).1.val = (if c.val < 9 then 0 else 1) ∧ (chReg c b).2.toNat = b.toNat + c.val % 9)
  ∧ (∀ (n : OperId) (b : Byte), b = 0x20 ∨ b = 0x40 ∨ b = 0x60 ∨ b = 0x80 ∨ b = 0xE0 →
    (opReg n b).1.val = (if n.val < 18 then 0 else 1)
      ∧ (opReg n b).2.toNat = b.toNat
        + ([0, 1, 2, 3, 4, 5, 8, 9, 10, 11, 12, 13, 16, 17, 18, 19, 20, 21] : List Nat).getD (n.val % 18) 0)
  ∧ ∀ s : State,
    (∀ n : OperId, ∀ o, o = s.oper[n] → ∃ b20 b40 b60 b80 bE0 : Byte,
      w20 cvs n s = s.sends [(opReg n 0x20, b20)]
      ∧ b20.toNat = 128 * o.trem.toNat + 64 * o.vib.toNat + 32 * o.sus.toNat + 16 * o.ksr.toNat + o.mult.toNat
      ∧ w40 cvs n s = s.sends [(opReg n 0x40, b40)] ∧ b40.toNat = 64 * o.ksl.toNat + o.tl.toNat
      ∧ w60 cvs n s = s.sends [(opReg n 0x60, b60)] ∧ b60.toNat = 16 * o.ar.toNat + o.dr.toNat
      ∧ w80 cvs n s = s.sends [(opReg n 0x80, b80)] ∧ b80.toNat = 16 * o.sl.toNat + o.rr.toNat
      ∧ wE0 cvs n s = s.sends [(opReg n 0xE0, bE0)] ∧ bE0.toNat = o.ws.toNat)
    ∧ (∀ c : PhysId, ∀ x, x = s.chan[c] → ∃ bA0 bB0 bC0 : Byte,
      wA0 cvs c s = s.sends [(chReg c 0xA0, bA0)] ∧ bA0.toNat = x.fnum.toNat % 256
      ∧ wB0 cvs c s = s.sends [(chReg c 0xB0, bB0)]
      ∧ bB0.toNat = 32 * x.keyOn.toNat + 4 * x.block.toNat + x.fnum.toNat / 256
      ∧ wC0 cvs c s = s.sends [(chReg c 0xC0, bC0)] ∧ bC0.toNat = 16 * x.out.toNat + 2 * x.fb.toNat + x.cnt.toNat)
    ∧ (∃ bBD : Byte, wBD cvs s = s.sends [((0, 0xBD), bBD)]
      ∧ bBD.toNat = 32 * s.percEnabled.toNat + 16 * s.percKey[0].toNat + 8 * s.percKey[1].toNat + 4 * s.percKey[2].toNat
        + 2 * s.percKey[3].toNat + s.percKey[4].toNat)
    ∧ (∃ b04 : Byte, w104 cvs s = s.sends [((1, 0x04), b04)]
      ∧ b04.toNat = ((List.finRange 6).map (fun j => 2 ^ j.val * (s.fourOpMask.getLsbD j.val).toNat)).sum)

/-- The operators of a handle (R92): the table of `physOps`, the roles, and that an operator belongs to exactly one
channel of the current topology. -/
def Obligations.OperatorMap : Prop :=
  (∀ c : PhysId, (physOps cvs c).map (·.val) =
    ([[0, 3], [1, 4], [2, 5], [6, 9], [7, 10], [8, 11], [12, 15], [13, 16], [14, 17], [18, 21], [19, 22], [20, 23],
      [24, 27], [25, 28], [26, 29], [30, 33], [31, 34], [32, 35]] : List (List Nat)).getD c.val [])
  ∧ (∀ (s : State) (c : PhysId), opsOf cvs s (physHandle c) =
    (match s.ctype[c] with | .null => [] | .twoOp => physOps cvs c | .fourOp => physOps cvs c ++ physOps cvs (c + 3)))
  ∧ (∀ s : State, (List.finRange 5).map (fun r => (opsOf cvs s (roleHandle r)).map (·.val)) = [[12, 15], [16], [14], [17], [13]])
  ∧ (∀ s : State, AllocInv s → ∀ n : OperId, ∃ c : PhysId, n ∈ opsOf cvs s (physHandle c)
    ∧ ∀ d : PhysId, n ∈ opsOf cvs s (physHandle d) → d = c)

/-! ### Cache and chip -/

/-- INIT: the block at its reset values, then exactly the 237 register writes of R261 in their order; it cannot be refused.
`CMD`, the host's acts and the environment are no element of the block (log 7). -/
def Obligations.InitRuns : Prop :=
  initRegisters.length = 237 ∧ ∀ s : State, ∃ t : State, HoldsResetValues { t with result := 0, busy := false }
    ∧ t.cmd = s.cmd ∧ t.inputs = s.inputs ∧ t.reads = s.reads ∧ t.draws = s.draws ∧ t.latch = s.latch
    ∧ t.chipRegs = s.chipRegs ∧ t.trace = s.trace
    ∧ exec .init s = .next ((t.sends initRegisters).answer .ok 0)

/-- After INIT the chip's mirrored registers hold the cache, whatever they held before (R30, R261). -/
def Obligations.InitEstablishesCache : Prop := ∀ s : State, ∃ t, exec .init s = .next t ∧ CacheAgrees t

/-- Once cache and chip agree, no step but the reset event parts them (R30). -/
def Obligations.CacheAgreementKept : Prop :=
  ∀ s t : State, CacheAgrees s → (∀ n rest, s.inputs ≠ .reset n :: rest) → step s = .next t → CacheAgrees t

/-! ### Invariants and whole-machine rules -/

/-- Every step keeps the allocator's invariant (R21 to R24). -/
def Obligations.AllocInvKept : Prop := ∀ s t : State, AllocInv s → step s = .next t → AllocInv t

/-- The reset state holds the reset values and meets every invariant (R50). -/
def Obligations.ResetMeetsInvariants : Prop :=
  HoldsResetValues State.reset ∧ AllocInv State.reset ∧ SlotInv State.reset ∧ SlotClean State.reset ∧ PatchInv State.reset
    ∧ Memory.wf State.reset.chipRegs ∧ State.reset.trace = []

/-- Every physical channel is in exactly one class, the mask follows the types, and the capacity is 18 (R24, R25). -/
def Obligations.PartitionAndCapacity : Prop :=
  ∀ s : State, AllocInv s →
    (∀ c : PhysId, ∃ k : ChannelClass, inClass s c k ∧ ∀ k', inClass s c k' → k' = k)
    ∧ (∀ j : PairId, s.fourOpMask.getLsbD j.val = true ↔ s.ctype[cvs.pairs[j].1] = .fourOp)
    ∧ capacity s = 18

/-- Every command but a FREE of a handle that a slot holds keeps the slot invariant, the voice-manager commands among them
(R37, R311). -/
def Obligations.SlotInvKept : Prop :=
  ∀ (i : Instr) (s t : State), AllocInv s → SlotInv s →
    (∀ a, i = .free a → ∀ (k : SlotId) (h : Handle), s.slot[k].lchan = some h → a.toNat ≠ h.val) →
    exec i s = .next t → SlotInv t

/-- With the slot invariant, and no role held while percussion mode is off (the hazard of R312), a slot is always Free:
slots are never the binding limit (R38). -/
def Obligations.SlotAlwaysFree : Prop :=
  ∀ s : State, AllocInv s → SlotInv s → (s.percEnabled = false → ∀ r : RoleId, s.allocd[roleHandle r] = false) →
    ∃ k : SlotId, s.slot[k].lchan = none

/-- Every step keeps: patches legal (R40), unbound slots zero and release time only on releasing slots (R35, R244), and the
canonical form of the chip's register list. -/
def Obligations.DataInvariantsKept : Prop :=
  ∀ s t : State, step s = .next t →
    (PatchInv s → PatchInv t) ∧ (SlotClean s → SlotClean t) ∧ (Memory.wf s.chipRegs → Memory.wf t.chipRegs)

/-- Every transition of a voice is in the table of R171; a voice that stays bound keeps its channel, note, velocity and
handle. INIT, which drops every voice, is outside the table (R261). -/
def Obligations.VoiceTransitions : Prop :=
  ∀ (i : Instr) (s t : State), i.wf cvs = true → i ≠ .init → exec i s = .next t → ∀ k : SlotId,
    moveAllowed i s.slot[k] s.patch[s.slot[k].midiCh].pedal t.slot[k].voice = true
    ∧ (s.slot[k].lchan ≠ none → t.slot[k].lchan ≠ none →
        t.slot[k].midiCh = s.slot[k].midiCh ∧ t.slot[k].note = s.slot[k].note ∧ t.slot[k].velocity = s.slot[k].velocity
          ∧ t.slot[k].lchan = s.slot[k].lchan)

/-- A refused command changes nothing but `RESULT` and makes no transaction; the one exception is the NOTE_ON that keeps
its steal of the first Releasing voice (R120, R178, R181, R270). Where the victim's handle is not allocated, which only the
hazard of R311 brings about, the steal unbinds the slot and its refused `Free` is skipped: the model's reading of R311
(DEDUCED, log 10). -/
def Obligations.RefusalChangesNothing : Prop :=
  ∀ (i : Instr) (s t : State), exec i s = .next t → (t.result.extractLsb' 8 8 : Byte) ≠ 0 →
    t = { s with result := t.result, busy := false }
    ∨ ((∃ a b c, i = .noteOn a b c) ∧ ∃ (v : SlotId) (h : Handle),
        s.slot[v].lchan = some h ∧ s.slot[v].releasing = true
        ∧ (∀ j : SlotId, j < v → s.slot[j].lchan = none ∨ s.slot[j].releasing = false)
        ∧ t = { s.stolen v h with result := 0x03FF, busy := false })

/-- Who may change what: types and the 4-op mask only ALLOC, NOTE_ON and INIT (R27); percussion mode only its two switches
and INIT (R26, R303); patches only CTRL, PITCH_BEND and INIT, and slots only the voice manager and INIT (R181, R277);
handles and the 4-op pool only ALLOC, FREE, NOTE_ON, PROGRAM, ALL_SOUND_OFF, SERVICE and INIT, so no setter, no query and no
other controller (R150); the 2-op pool these and the two percussion switches (R127, R128). -/
def Obligations.WhoMayChange : Prop :=
  ∀ (i : Instr) (s t : State), i.wf cvs = true → exec i s = .next t → i ≠ .init →
    (allocates i = false → t.ctype = s.ctype ∧ t.fourOpMask = s.fourOpMask)
    ∧ (i ≠ .percEnable → i ≠ .percDisable → t.percEnabled = s.percEnabled)
    ∧ (writesPatches i = false → t.patch = s.patch)
    ∧ (isVoiceManager i = false → t.slot = s.slot)
    ∧ (movesHandles i = false → t.allocd = s.allocd ∧ t.free4 = s.free4
        ∧ (i ≠ .percEnable → i ≠ .percDisable → t.free2 = s.free2))
    ∧ (i ≠ .detect → t.reads = s.reads)

/-- A NOTE_ON, NOTE_OFF, CTRL or PITCH_BEND for one MIDI channel changes no other channel's patch, and, but for NOTE_ON
with its steal, no slot of another channel. -/
def Obligations.ChannelsIsolated : Prop :=
  ∀ (i : Instr) (a : Byte) (s t : State) (m : MidiId), i.wf cvs = true → midiOperand i = some a → a.toNat ≠ m.val →
    exec i s = .next t →
    t.patch[m] = s.patch[m] ∧ ((∀ b c, i ≠ .noteOn a b c) → ∀ k : SlotId, s.slot[k].midiCh = m → t.slot[k] = s.slot[k])

/-! ### System commands and queries -/

/-- NOP writes `RESULT = {OK, 0}` and nothing else (R260). GET_OP_TYPE and GET_OP_COUNT answer from the channel type and
the connection bits alone, for every handle of 0..22 (R148, R149). -/
def Obligations.QueriesAnswer : Prop :=
  (∀ s : State, exec .nop s = .next { s with result := 0x0000, busy := false })
  ∧ (∀ (s : State) (a b : Byte) (h : Handle), a.toNat = h.val →
    exec (.getOpCount a) s = .next (s.answer .ok
      (match ctypeOf s h with | .null => 0 | .fourOp => 4 | .twoOp | .kick => 2 | .snare | .tomTom | .cymbal | .hiHat => 1))
    ∧ exec (.getOpType a b) s = .next (s.answer .ok
      (match ctypeOf s h with
        | .null => 0
        | .twoOp | .kick =>
          if b = 1 then 1 else if b = 0 then (if s.chan[physChan cvs h].cnt = 1 then 1 else 2) else 0
        | .fourOp =>
          if 4 ≤ b.toNat then 0
          else if b = 3 ∨ (b = 0 ∧ s.chan[physChan cvs h].cnt = 1)
              ∨ (b = 1 ∧ s.chan[physChan cvs h].cnt = 0 ∧ s.chan[physChan cvs h + 3].cnt = 1)
              ∨ (b = 2 ∧ s.chan[physChan cvs h].cnt = 1 ∧ s.chan[physChan cvs h + 3].cnt = 1) then 1 else 2
        | .snare | .tomTom | .cymbal | .hiHat => if b = 0 then 1 else 0)))
  ∧ (∀ (s : State) (a b : Byte), 22 < a.toNat →
    exec (.getOpCount a) s = .next (s.answer .invalidHandle 0) ∧ exec (.getOpType a b) s = .next (s.answer .invalidHandle 0))

/-- DETECT: six register writes and two status reads in the order of R262, and the value 1 exactly when bits 7:5 of the
first byte are 000 and of the second 110. The two bytes are the environment's: the listed ones where there are any
(R66, log 3). -/
def Obligations.DetectProbes : Prop :=
  ∀ s : State, ∃ (s1 s2 : Byte) (t : State), exec .detect s = .next t
    ∧ (∀ b rest, s.reads = b :: rest → s1 = b) ∧ (∀ b b' rest, s.reads = b :: b' :: rest → s2 = b')
    ∧ t = { s with
        reads := s.reads.drop 2, draws := t.draws, latch := s.latch.set 0 0x04, chipRegs := t.chipRegs
        trace := s.trace ++ [.write 0x388 0x04, .write 0x389 0x60, .write 0x388 0x04, .write 0x389 0x80, .read 0x388 s1,
          .write 0x388 0x02, .write 0x389 0xFF, .write 0x388 0x04, .write 0x389 0x21, .read 0x388 s2,
          .write 0x388 0x04, .write 0x389 0x60, .write 0x388 0x04, .write 0x389 0x80]
        result := if s1.toNat / 32 = 0 ∧ s2.toNat / 32 = 6 then 0x0001 else 0x0000, busy := false }
    ∧ (∀ r, chipReg t r = if r = (0, 0x02) then some 0xFF else if r = (0, 0x04) then some 0x80 else chipReg s r)

/-! ### Allocation and percussion mode -/

/-- ALLOC TwoOp: the pool's first member in `PRIO2` order, else the first pair in `CONV2` order with its primary in `free4`
is split with one write of 1:04, else refused (R123). -/
def Obligations.AllocTwoOp : Prop :=
  ∀ s : State, ∀ pool : Option PhysId,
    pool = ([15, 16, 17, 6, 7, 8, 0, 3, 1, 4, 2, 5, 9, 12, 10, 13, 11, 14] : List PhysId).find? (fun c => s.free2[c]) →
    (∀ c, pool = some c → exec (.alloc 1) s =
      .next (State.answer { s with free2 := s.free2.set c false, allocd := s.allocd.set (physHandle c) true }
        .ok (BitVec.ofNat 8 c.val)))
    ∧ (pool = none → ∀ split : Option PairId,
      split = ([0, 1, 2, 3, 4, 5] : List PairId).find? (fun j => s.free4[cvs.pairs[j].1]) →
      (∀ (j : PairId) (p q : PhysId), split = some j → cvs.pairs[j] = (p, q) →
        ∃ mask : BitVec 6, (∀ l : PairId, mask.getLsbD l.val = (s.fourOpMask.getLsbD l.val && l != j))
          ∧ exec (.alloc 1) s = .next (((State.sends { s with
              free4 := s.free4.set p false, free2 := s.free2.set q true, allocd := s.allocd.set (physHandle p) true
              ctype := (s.ctype.set p .twoOp).set q .twoOp, fourOpMask := mask } [((1, 0x04), mask.setWidth 8)]).answer
              .ok (BitVec.ofNat 8 p.val))))
      ∧ (split = none → exec (.alloc 1) s = .next (s.answer .resourceExhausted 0xFF)))

/-- ALLOC FourOp: the pool's first member in `PRIO4` order, else the first pair in `CONV4` order with both halves in `free2`
is merged with one write of 1:04, else refused (R124). -/
def Obligations.AllocFourOp : Prop :=
  ∀ s : State, ∀ pool : Option PhysId,
    pool = ([11, 10, 9, 2, 1, 0] : List PhysId).find? (fun c => s.free4[c]) →
    (∀ c, pool = some c → exec (.alloc 2) s =
      .next (State.answer { s with free4 := s.free4.set c false, allocd := s.allocd.set (physHandle c) true }
        .ok (BitVec.ofNat 8 c.val)))
    ∧ (pool = none → ∀ pair : Option PairId,
      pair = ([5, 4, 3, 2, 1, 0] : List PairId).find? (fun j => s.free2[cvs.pairs[j].1] && s.free2[cvs.pairs[j].2]) →
      (∀ (j : PairId) (p q : PhysId), pair = some j → cvs.pairs[j] = (p, q) →
        ∃ mask : BitVec 6, (∀ l : PairId, mask.getLsbD l.val = (s.fourOpMask.getLsbD l.val || l == j))
          ∧ exec (.alloc 2) s = .next (((State.sends { s with
              free2 := (s.free2.set p false).set q false, allocd := s.allocd.set (physHandle p) true
              ctype := (s.ctype.set p .fourOp).set q .null, fourOpMask := mask } [((1, 0x04), mask.setWidth 8)]).answer
              .ok (BitVec.ofNat 8 p.val))))
      ∧ (pair = none → exec (.alloc 2) s = .next (s.answer .resourceExhausted 0xFF)))

/-- ALLOC of a percussion role, and the type codes that name no type (R122, R125). -/
def Obligations.AllocRole : Prop :=
  (∀ (s : State) (a : Byte) (r : RoleId), a.toNat = 3 + r.val →
    (s.percEnabled = true → s.allocd[roleHandle r] = false → exec (.alloc a) s =
      .next (State.answer { s with allocd := s.allocd.set (roleHandle r) true } .ok (BitVec.ofNat 8 (18 + r.val))))
    ∧ (s.percEnabled = false → exec (.alloc a) s = .next (s.answer .invalidTransition 0xFF))
    ∧ (s.percEnabled = true → s.allocd[roleHandle r] = true →
      exec (.alloc a) s = .next (s.answer .resourceExhausted 0xFF)))
  ∧ (∀ (s : State) (a : Byte), a = 0 ∨ 7 < a.toNat → exec (.alloc a) s = .next (s.answer .outOfRange 0xFF))

/-- FREE of a held handle: the handle is given back, its type's pool takes it, nothing is silenced and nothing is put on
the bus; of any other number it is refused (R126). -/
def Obligations.FreeReturnsHandle : Prop :=
  (∀ (s : State) (a : Byte) (c : PhysId), a.toNat = c.val → s.allocd[physHandle c] = true → exec (.free a) s =
    .next (State.answer { s with
      allocd := s.allocd.set (physHandle c) false
      free2 := if s.ctype[c] = .twoOp then s.free2.set c true else s.free2
      free4 := if s.ctype[c] = .fourOp then s.free4.set c true else s.free4 } .ok 1))
  ∧ (∀ (s : State) (a : Byte) (r : RoleId), a.toNat = 18 + r.val → s.allocd[roleHandle r] = true → exec (.free a) s =
    .next (State.answer { s with allocd := s.allocd.set (roleHandle r) false } .ok 1))
  ∧ (∀ (s : State) (a : Byte), (∀ h : Handle, h.val = a.toNat → s.allocd[h] = false) →
    exec (.free a) s = .next (s.answer .invalidHandle 0))

/-- PERC_ENABLE and PERC_DISABLE, and when each is refused (R127, R128). -/
def Obligations.PercussionSwitch : Prop :=
  (∀ s : State, s.percEnabled = false → s.free2[6] = true ∧ s.free2[7] = true ∧ s.free2[8] = true →
    exec .percEnable s = .next ((State.sends { s with
      percEnabled := true, free2 := ((s.free2.set 6 false).set 7 false).set 8 false }
      [((0, 0xBD), percussionByte cvs true s.percKey)]).answer .ok 1))
  ∧ (∀ s : State, s.percEnabled = true ∨ ¬(s.free2[6] = true ∧ s.free2[7] = true ∧ s.free2[8] = true) →
    exec .percEnable s = .next (s.answer .invalidTransition 0))
  ∧ (∀ s : State, s.percEnabled = true → (∀ r : RoleId, s.percKey[r] = false) →
    exec .percDisable s = .next ((State.sends { s with
      percEnabled := false, free2 := ((s.free2.set 6 true).set 7 true).set 8 true } [((0, 0xBD), 0x00)]).answer .ok 1))
  ∧ (∀ s : State, s.percEnabled = false ∨ (∃ r : RoleId, s.percKey[r] = true) →
    exec .percDisable s = .next (s.answer .invalidTransition 0))

/-! ### Frequency, key and setters -/

/-- A mutating command on a handle that is not valid is refused with InvalidHandle, value 0 (R121). -/
def Obligations.InvalidHandleRefused : Prop :=
  ∀ (i : Instr) (n : Nat) (s : State), handleOperand i = some n → (∀ h : Handle, h.val = n → s.allocd[h] = false) →
    exec i s = .next (s.answer .invalidHandle 0)

/-- SET_FREQ: `block` is the least exponent whose ceiling exceeds the frequency, else 7, `fnum` the clamped quotient; the
low byte is written first, and the key bit is recombined, not changed (R129). -/
def Obligations.SetFreqWrites : Prop :=
  ∀ (s : State) (hh : BitVec 5) (freq : BitVec 26) (h : Handle) (c : PhysId) (b f : Nat), hh.toNat = h.val →
    s.allocd[h] = true → physChan cvs h = c →
    ((b ≤ 7 ∧ freq.toNat < 4850 * 2 ^ b) ∨ b = 7) → (∀ b' < b, 4850 * 2 ^ b' ≤ freq.toNat) →
    f = min 1023 (freq.toNat * 2 ^ (20 - b) / 4971600) →
    ∃ x : Chan, x = { s.chan[c] with fnum := BitVec.ofNat 10 f, block := BitVec.ofNat 3 b }
      ∧ exec (.setFreq hh freq) s = .next ((State.sends { s with chan := s.chan.set c x }
        [(chReg c 0xA0, x.fnumLowByte cvs), (chReg c 0xB0, x.keyBlockByte cvs)]).answer .ok 1)

/-- The properties of the frequency number: it fits its fields, does not decrease within a block, is 0 at 0, and clamps
instead of wrapping (R129). -/
def Obligations.FrequencyLaw : Prop :=
  (∀ freq : Nat, freqBlock cvs freq ≤ 7 ∧ freqNumber cvs freq ≤ 1023)
  ∧ (∀ f g : Nat, f ≤ g → freqBlock cvs f ≤ freqBlock cvs g
    ∧ (freqBlock cvs f = freqBlock cvs g → freqNumber cvs f ≤ freqNumber cvs g))
  ∧ (freqBlock cvs 0 = 0 ∧ freqNumber cvs 0 = 0)
  ∧ (∀ f : Nat, 620844 ≤ f → freqBlock cvs f = 7 ∧ freqNumber cvs f = 1023)
  ∧ (∀ f : Nat, 620800 ≤ f → f ≤ 620843 → freqBlock cvs f = 7 ∧ freqNumber cvs f = 1022)
  ∧ (∀ f : Nat, freqBlock cvs f < 7 → freqNumber cvs f ≤ 1022)

/-- KEY_ON and KEY_OFF: one key bit and one register write, also when the bit was already so; a role's bit stands in 0:BD
with the enable bit and the other roles' keys, percussion mode on or off; refused on a handle that is not valid (R130,
R131). -/
def Obligations.KeyWrites : Prop :=
  (∀ (s : State) (a : Byte) (c : PhysId), a.toNat = c.val → s.allocd[physHandle c] = true →
    exec (.keyOn a) s = .next ((State.sends { s with chan := s.chan.set c (s.chan[c].keyed 1) }
      [(chReg c 0xB0, (s.chan[c].keyed 1).keyBlockByte cvs)]).answer .ok 1)
    ∧ exec (.keyOff a) s = .next ((State.sends { s with chan := s.chan.set c (s.chan[c].keyed 0) }
      [(chReg c 0xB0, (s.chan[c].keyed 0).keyBlockByte cvs)]).answer .ok 1))
  ∧ (∀ (s : State) (a : Byte) (r : RoleId), a.toNat = 18 + r.val → s.allocd[roleHandle r] = true →
    exec (.keyOn a) s = .next ((State.sends { s with percKey := s.percKey.set r true }
      [((0, 0xBD), percussionByte cvs s.percEnabled (s.percKey.set r true))]).answer .ok 1)
    ∧ exec (.keyOff a) s = .next ((State.sends { s with percKey := s.percKey.set r false }
      [((0, 0xBD), percussionByte cvs s.percEnabled (s.percKey.set r false))]).answer .ok 1))
  ∧ (∀ (s : State) (a : Byte), (∀ h : Handle, h.val = a.toNat → s.allocd[h] = false) →
    exec (.keyOn a) s = .next (s.answer .invalidHandle 0) ∧ exec (.keyOff a) s = .next (s.answer .invalidHandle 0))

/-- The twelve SET_OP_* commands on a held handle with an operator of that index and a value that fits: the named field takes
the value, and the one register that holds it is written with the byte recombined from the cache (R132 to R144). -/
def Obligations.SetOpWrites : Prop :=
  ∀ (s : State) (a b v : Byte) (h : Handle) (n : OperId) (o : Oper), a.toNat = h.val → s.allocd[h] = true →
    (opsOf cvs s h)[b.toNat]? = some n → o = s.oper[n] →
    (v.toNat < 16 →
      exec (.setOpAttack a b v) s = .next (s.operSet n { o with ar := v.setWidth 4 } 0x60 (v.setWidth 4 ++ o.dr))
      ∧ exec (.setOpDecay a b v) s = .next (s.operSet n { o with dr := v.setWidth 4 } 0x60 (o.ar ++ v.setWidth 4))
      ∧ exec (.setOpSustain a b v) s = .next (s.operSet n { o with sl := v.setWidth 4 } 0x80 (v.setWidth 4 ++ o.rr))
      ∧ exec (.setOpRelease a b v) s = .next (s.operSet n { o with rr := v.setWidth 4 } 0x80 (o.sl ++ v.setWidth 4))
      ∧ exec (.setOpMult a b v) s =
        .next (s.operSet n { o with mult := v.setWidth 4 } 0x20 (o.trem ++ o.vib ++ o.sus ++ o.ksr ++ v.setWidth 4)))
    ∧ (v.toNat < 8 → exec (.setOpWaveform a b v) s = .next (s.operSet n { o with ws := v.setWidth 3 } 0xE0 v))
    ∧ (v.toNat < 64 →
      exec (.setOpAttenuation a b v) s = .next (s.operSet n { o with tl := v.setWidth 6 } 0x40 (o.ksl ++ v.setWidth 6)))
    ∧ (v.toNat < 4 → exec (.setOpKsl a b v) s = .next (s.operSet n { o with ksl := v.setWidth 2 } 0x40 (v.setWidth 2 ++ o.tl)))
    ∧ (v.toNat < 2 →
      exec (.setOpTremolo a b v) s =
        .next (s.operSet n { o with trem := v.setWidth 1 } 0x20 (v.setWidth 1 ++ o.vib ++ o.sus ++ o.ksr ++ o.mult))
      ∧ exec (.setOpVibrato a b v) s =
        .next (s.operSet n { o with vib := v.setWidth 1 } 0x20 (o.trem ++ v.setWidth 1 ++ o.sus ++ o.ksr ++ o.mult))
      ∧ exec (.setOpSusflag a b v) s =
        .next (s.operSet n { o with sus := v.setWidth 1 } 0x20 (o.trem ++ o.vib ++ v.setWidth 1 ++ o.ksr ++ o.mult))
      ∧ exec (.setOpEnvscale a b v) s =
        .next (s.operSet n { o with ksr := v.setWidth 1 } 0x20 (o.trem ++ o.vib ++ o.sus ++ v.setWidth 1 ++ o.mult)))

/-- The range tests of the operator and channel setters on a held handle: an operator index at or above the count, or a
value wider than the field; a channel setter's range by the channel's type (R132, R145 to R147). -/
def Obligations.SetterRangeRefused : Prop :=
  (∀ (i : Instr) (s : State) (h : Handle) (b v : Byte) (w : Nat), handleOperand i = some h.val → s.allocd[h] = true →
    setOpOperands i = some (b, v, w) → opCount cvs s h ≤ b.toNat ∨ 2 ^ w ≤ v.toNat → exec i s = .next (s.answer .outOfRange 0))
  ∧ (∀ (s : State) (a v : Byte) (h : Handle), a.toNat = h.val → s.allocd[h] = true →
    (15 < v.toNat → exec (.setOutput a v) s = .next (s.answer .outOfRange 0))
    ∧ (ctypeOf s h ∈ ([.snare, .tomTom, .cymbal, .hiHat] : List ChType) ∨ 7 < v.toNat →
      exec (.setFeedback a v) s = .next (s.answer .outOfRange 0))
    ∧ (ctypeOf s h ∈ ([.snare, .tomTom, .cymbal, .hiHat] : List ChType)
        ∨ (ctypeOf s h ∈ ([.twoOp, .kick] : List ChType) ∧ 1 < v.toNat) ∨ (ctypeOf s h = .fourOp ∧ 3 < v.toNat) →
      exec (.setAlgorithm a v) s = .next (s.answer .outOfRange 0)))

/-- SET_OUTPUT, SET_FEEDBACK and SET_ALGORITHM on a held handle with a value in range; both halves of a FourOp channel carry
the routing and one connection bit each, the primary alone the feedback (R145 to R147). -/
def Obligations.ChannelSetters : Prop :=
  ∀ (s : State) (a v : Byte) (h : Handle) (c : PhysId), a.toNat = h.val → s.allocd[h] = true → physChan cvs h = c →
    (v.toNat < 16 → ctypeOf s h ≠ .fourOp → ∃ x : Chan, x = { s.chan[c] with out := v.setWidth 4 }
      ∧ exec (.setOutput a v) s = .next ((State.sends { s with chan := s.chan.set c x }
        [(chReg c 0xC0, x.outputByte cvs)]).answer .ok 1))
    ∧ (v.toNat < 16 → ctypeOf s h = .fourOp → ∃ x y : Chan, x = { s.chan[c] with out := v.setWidth 4 }
      ∧ y = { s.chan[c + 3] with out := v.setWidth 4 }
      ∧ exec (.setOutput a v) s = .next ((State.sends { s with chan := (s.chan.set c x).set (c + 3 : PhysId) y }
        [(chReg c 0xC0, x.outputByte cvs), (chReg (c + 3) 0xC0, y.outputByte cvs)]).answer .ok 1))
    ∧ (v.toNat < 8 → ctypeOf s h ∉ ([.snare, .tomTom, .cymbal, .hiHat] : List ChType) →
      ∃ x : Chan, x = { s.chan[c] with fb := v.setWidth 3 }
      ∧ exec (.setFeedback a v) s = .next ((State.sends { s with chan := s.chan.set c x }
        [(chReg c 0xC0, x.outputByte cvs)]).answer .ok 1))
    ∧ (v.toNat < 2 → ctypeOf s h = .twoOp ∨ ctypeOf s h = .kick → ∃ x : Chan, x = { s.chan[c] with cnt := v.setWidth 1 }
      ∧ exec (.setAlgorithm a v) s = .next ((State.sends { s with chan := s.chan.set c x }
        [(chReg c 0xC0, x.outputByte cvs)]).answer .ok 1))
    ∧ (v.toNat < 4 → ctypeOf s h = .fourOp → ∃ x y : Chan, x = { s.chan[c] with cnt := v.extractLsb' 1 1 }
      ∧ y = { s.chan[c + 3] with cnt := v.extractLsb' 0 1 }
      ∧ exec (.setAlgorithm a v) s = .next ((State.sends { s with chan := (s.chan.set c x).set (c + 3 : PhysId) y }
        [(chReg c 0xC0, x.outputByte cvs), (chReg (c + 3) 0xC0, y.outputByte cvs)]).answer .ok 1))

/-! ### Voices -/

/-- NOTE_ON on a channel with a TwoOp patch, once a channel is obtained: the lowest Free slot is bound, the channel's output
register, both operators from their templates, the frequency and the key-on, in this order, 14 register writes (R172 to
R174). `allocOrSteal` is step (3), stated in `AllocTwoOp` and `NoteOnObtainsChannel`. -/
def Obligations.NoteOnTwoOp : Prop :=
  ∀ (s s1 : State) (a b v : Byte) (m : MidiId) (note vel : BitVec 7) (k : SlotId) (c : PhysId),
    a.toNat = m.val → b.toNat = note.toNat → v.toNat = vel.toNat →
    s.slot[k].lchan = none → (∀ j : SlotId, j < k → s.slot[j].lchan ≠ none) →
    allocOrSteal cvs s.patch[m].ctype s = (some (physHandle c), s1) → s1.ctype[c] = .twoOp →
    ∃ (P : Patch) (n0 n1 : OperId) (x0 x1 : Chan) (o0 o1 : Oper),
      P = s.patch[m] ∧ physOps cvs c = [n0, n1]
      ∧ x0 = { s1.chan[c] with out := P.out, fb := P.fb, cnt := P.algorithm.extractLsb' 0 1 }
      ∧ x1 = x0.tuned (noteFreq cvs note P.bendCents.toInt)
      ∧ o0 = programmed P vel 0 (P.algorithm.extractLsb' 0 1 = (1 : BitVec 1)) ∧ o1 = programmed P vel 1 true
      ∧ exec (.noteOn a b v) s = .next ((State.sends { s1 with
          slot := s1.slot.set k (boundSlot m note vel (physHandle c))
          chan := s1.chan.set c (x1.keyed 1), oper := (s1.oper.set n0 o0).set n1 o1 }
          ([(chReg c 0xC0, x0.outputByte cvs)] ++ operWrites n0 o0 ++ operWrites n1 o1 ++ freqWrites c x1
            ++ [(chReg c 0xB0, (x1.keyed 1).keyBlockByte cvs)])).answer .ok (BitVec.ofNat 8 k.val))

/-- The same with a FourOp patch: both halves' output registers, the four operators, 25 register writes (R172 to R174). -/
def Obligations.NoteOnFourOp : Prop :=
  ∀ (s s1 : State) (a b v : Byte) (m : MidiId) (note vel : BitVec 7) (k : SlotId) (c : PhysId),
    a.toNat = m.val → b.toNat = note.toNat → v.toNat = vel.toNat →
    s.slot[k].lchan = none → (∀ j : SlotId, j < k → s.slot[j].lchan ≠ none) →
    allocOrSteal cvs s.patch[m].ctype s = (some (physHandle c), s1) → s1.ctype[c] = .fourOp →
    ∃ (P : Patch) (n0 n1 n2 n3 : OperId) (x0 x1 y : Chan) (o0 o1 o2 o3 : Oper),
      P = s.patch[m] ∧ physOps cvs c = [n0, n1] ∧ physOps cvs (c + 3) = [n2, n3]
      ∧ x0 = { s1.chan[c] with out := P.out, fb := P.fb, cnt := P.algorithm.extractLsb' 1 1 }
      ∧ y = { s1.chan[c + 3] with out := P.out, cnt := P.algorithm.extractLsb' 0 1 }
      ∧ x1 = x0.tuned (noteFreq cvs note P.bendCents.toInt)
      ∧ o0 = programmed P vel 0 (P.algorithm = 2 ∨ P.algorithm = 3) ∧ o1 = programmed P vel 1 (P.algorithm = 1)
      ∧ o2 = programmed P vel 2 (P.algorithm = 3) ∧ o3 = programmed P vel 3 true
      ∧ exec (.noteOn a b v) s = .next ((State.sends { s1 with
          slot := s1.slot.set k (boundSlot m note vel (physHandle c))
          chan := (s1.chan.set c (x1.keyed 1)).set (c + 3 : PhysId) y
          oper := (((s1.oper.set n0 o0).set n1 o1).set n2 o2).set n3 o3 }
          ([(chReg c 0xC0, x0.outputByte cvs), (chReg (c + 3) 0xC0, y.outputByte cvs)] ++ operWrites n0 o0 ++ operWrites n1 o1
            ++ operWrites n2 o2 ++ operWrites n3 o3 ++ freqWrites c x1
            ++ [(chReg c 0xB0, (x1.keyed 1).keyBlockByte cvs)])).answer .ok (BitVec.ofNat 8 k.val))

/-- The same on a percussion role: Kick has two operators and its connection bit, a single-operator role leaves feedback and
connection bit of the shared channel as they were; the key bit stands in 0:BD (R172 to R174, R310). -/
def Obligations.NoteOnRole : Prop :=
  ∀ (s s1 : State) (a b v : Byte) (m : MidiId) (note vel : BitVec 7) (k : SlotId) (r : RoleId),
    a.toNat = m.val → b.toNat = note.toNat → v.toNat = vel.toNat →
    s.slot[k].lchan = none → (∀ j : SlotId, j < k → s.slot[j].lchan ≠ none) →
    allocOrSteal cvs s.patch[m].ctype s = (some (roleHandle r), s1) →
    ∃ (P : Patch) (c : PhysId) (x0 x1 : Chan) (os : List (OperId × Oper)),
      P = s.patch[m] ∧ c.val = ([6, 7, 8, 8, 7] : List Nat).getD r.val 0
      ∧ x0 = (if r = 0 then { s1.chan[c] with out := P.out, fb := P.fb, cnt := P.algorithm.extractLsb' 0 1 }
          else { s1.chan[c] with out := P.out })
      ∧ x1 = x0.tuned (noteFreq cvs note P.bendCents.toInt)
      ∧ os = (([[(12, programmed P vel 0 (P.algorithm.extractLsb' 0 1 = (1 : BitVec 1))), (15, programmed P vel 1 true)],
          [(16, programmed P vel 0 true)], [(14, programmed P vel 0 true)], [(17, programmed P vel 0 true)],
          [(13, programmed P vel 0 true)]] : List (List (OperId × Oper))).getD r.val [])
      ∧ exec (.noteOn a b v) s = .next ((State.sends { s1 with
          slot := s1.slot.set k (boundSlot m note vel (roleHandle r))
          chan := s1.chan.set c x1, oper := os.foldl (fun o q => o.set q.1 q.2) s1.oper
          percKey := s1.percKey.set r true }
          ([(chReg c 0xC0, x0.outputByte cvs)] ++ os.flatMap (fun q => operWrites q.1 q.2) ++ freqWrites c x1
            ++ [((0, 0xBD), percussionByte cvs s1.percEnabled (s1.percKey.set r true))])).answer .ok (BitVec.ofNat 8 k.val))

/-- Step (3) of NOTE_ON: the allocation, else one steal of the first Releasing voice in slot order and one retry; the victim
is freed without being silenced, whatever its channel and type (R178). And when NOTE_ON is refused, and with what: an operand
out of range; no Free slot, and then nothing is stolen; no channel (R172, R272). A victim whose handle is not allocated, which
only the hazard of R311 brings about, is unbound all the same and the allocation retried: the model's reading of R311
(DEDUCED, log 10). -/
def Obligations.NoteOnObtainsChannel : Prop :=
  (∀ (t : ChType) (s : State),
    (∀ h s1, allocate cvs t s = .ok (h, s1) → allocOrSteal cvs t s = (some h, s1))
    ∧ (∀ e, allocate cvs t s = .error e →
      ((∀ k : SlotId, s.slot[k].lchan = none ∨ s.slot[k].releasing = false) → allocOrSteal cvs t s = (none, s))
      ∧ (∀ (v : SlotId) (h : Handle), s.slot[v].lchan = some h → s.slot[v].releasing = true →
        (∀ j : SlotId, j < v → s.slot[j].lchan = none ∨ s.slot[j].releasing = false) →
        (∀ h' s1, allocate cvs t (s.stolen v h) = .ok (h', s1) → allocOrSteal cvs t s = (some h', s1))
        ∧ (∀ e', allocate cvs t (s.stolen v h) = .error e' → allocOrSteal cvs t s = (none, s.stolen v h)))))
  ∧ ∀ (s : State) (a b v : Byte),
    (15 < a.toNat ∨ 127 < b.toNat ∨ 127 < v.toNat → exec (.noteOn a b v) s = .next (s.answer .outOfRange 0xFF))
    ∧ (a.toNat ≤ 15 → b.toNat ≤ 127 → v.toNat ≤ 127 →
      ((∀ k : SlotId, s.slot[k].lchan ≠ none) → exec (.noteOn a b v) s = .next (s.answer .resourceExhausted 0xFF))
      ∧ (∀ (m : MidiId) (s1 : State), a.toNat = m.val → (∃ k : SlotId, s.slot[k].lchan = none) →
        allocOrSteal cvs s.patch[m].ctype s = (none, s1) →
        exec (.noteOn a b v) s = .next (s1.answer .resourceExhausted 0xFF)))

/-- NOTE_OFF, ALL_NOTES_OFF and SUSTAIN_PEDAL. With the pedal up a matching voice gets its key-off and becomes Releasing, with
the pedal down its `sustained` bit; a pedal value below 64 releases the voices whose bit is set. A key-off on a handle that
is not allocated is skipped (R177, R179, R221, R223, R311). -/
def Obligations.NotesReleased : Prop :=
  ∀ (s : State) (a : Byte) (m : MidiId), a.toNat = m.val →
    (∀ (b : Byte) (note : BitVec 7) (sel : Slot → Bool), b.toNat = note.toNat → sel = (fun x => x.note == note) →
      (s.patch[m].pedal = false → exec (.noteOff a b) s =
        .next (((s.keyedOff (heldHandles s m sel)).mapSlots (chosen m sel) Slot.released).answer .ok
          (BitVec.ofNat 8 (voicesOf s m sel).length)))
      ∧ (s.patch[m].pedal = true → exec (.noteOff a b) s =
        .next ((s.mapSlots (chosen m sel) (fun x => { x with sustained := true })).answer .ok
          (BitVec.ofNat 8 (voicesOf s m sel).length))))
    ∧ (∀ (c : Byte) (sel : Slot → Bool), c.toNat ≤ 127 → sel = (fun _ => true) →
      (s.patch[m].pedal = false → exec (.ctrlAllNotesOff a c) s =
        .next (((s.keyedOff (heldHandles s m sel)).mapSlots (chosen m sel) Slot.released).answer .ok 0))
      ∧ (s.patch[m].pedal = true → exec (.ctrlAllNotesOff a c) s =
        .next ((s.mapSlots (chosen m sel) (fun x => { x with sustained := true })).answer .ok 0)))
    ∧ (∀ (c : Byte) (sel : Slot → Bool), c.toNat ≤ 127 → sel = (fun x => x.sustained) →
      (64 ≤ c.toNat → exec (.ctrlSustainPedal a c) s =
        .next (State.answer { s with patch := s.patch.set m { s.patch[m] with pedal := true } } .ok 0))
      ∧ (c.toNat < 64 → exec (.ctrlSustainPedal a c) s =
        .next ((State.mapSlots (State.keyedOff { s with patch := s.patch.set m { s.patch[m] with pedal := false } }
          (heldHandles s m sel)) (chosen m sel) Slot.released).answer .ok 0)))

/-- PITCH_BEND: the cents of the bend law are stored, and every bound voice of the channel gets its new frequency, two register
writes each with the key bit recombined from the cache; the value is the number of voices visited (R107, R180, R311). -/
def Obligations.PitchBendRetunes : Prop :=
  ∀ (s : State) (a : Byte) (v : BitVec 16) (m : MidiId) (cents : Int) (voices held : List (SlotId × Handle)),
    a.toNat = m.val → v.toNat ≤ 16383 →
    cents = (if v.toNat < 8192 then -(((8192 - v.toNat) * 200 / 8192 : Nat) : Int)
      else (((v.toNat - 8192) * 200 / 8191 : Nat) : Int)) →
    voices = voicesOf s m (fun _ => true) → held = voices.filter (fun kh => s.allocd[kh.2]) →
    exec (.pitchBend a v) s = .next ((State.sends { s with
        patch := s.patch.set m { s.patch[m] with bendCents := BitVec.ofInt 9 cents }
        chan := held.foldl (fun x kh =>
          x.set (physChan cvs kh.2) (x[physChan cvs kh.2].tuned (noteFreq cvs s.slot[kh.1].note cents))) s.chan }
      (held.flatMap (fun kh =>
        freqWrites (physChan cvs kh.2) (s.chan[physChan cvs kh.2].tuned (noteFreq cvs s.slot[kh.1].note cents))))).answer .ok
      (BitVec.ofNat 8 voices.length))

/-- The bend law and the note frequencies: cents in -200..200, not decreasing, 0 at the centre; frequencies in 728..1408000,
not decreasing in `note*100 + cents`. The 132 entries of `NOTE_CHZ` obey the law of R108, the nearest integer to
`44000 * 2^((k-69)/12)`, here raised to the twelfth power; a frequency is the entry where the cents are a whole semitone, and
else the linear interpolation between two neighbours (R107 to R109). -/
def Obligations.FrequencyOperands : Prop :=
  (∀ v : Nat, v ≤ 16383 → -200 ≤ bendLaw v ∧ bendLaw v ≤ 200)
  ∧ (∀ v w : Nat, v ≤ w → w ≤ 16383 → bendLaw v ≤ bendLaw w) ∧ bendLaw 0 = -200 ∧ bendLaw 8192 = 0 ∧ bendLaw 16383 = 200
  ∧ (∀ (note : BitVec 7) (c : Int), -200 ≤ c → c ≤ 200 → 728 ≤ noteFreq cvs note c ∧ noteFreq cvs note c ≤ 1408000)
  ∧ (∀ (note note' : BitVec 7) (c c' : Int), -200 ≤ c → c ≤ 200 → -200 ≤ c' → c' ≤ 200 →
    (note.toNat : Int) * 100 + c ≤ note'.toNat * 100 + c' → noteFreq cvs note c ≤ noteFreq cvs note' c')
  ∧ (∀ note : BitVec 7, noteFreq cvs note 0 = noteChz cvs note.toNat)
  ∧ (∀ (j : Fin 132) (n : Nat), n = noteChz cvs ((j.val : Int) - 2) →
    (2 * n - 1) ^ 12 * 2 ^ 71 ≤ 88000 ^ 12 * 2 ^ j.val ∧ 88000 ^ 12 * 2 ^ j.val < (2 * n + 1) ^ 12 * 2 ^ 71)
  ∧ (∀ (note : BitVec 7) (c q : Int) (r : Nat), -200 ≤ c → c ≤ 200 → r < 100 → (note.toNat : Int) * 100 + c = q * 100 + r →
    (r = 0 → noteFreq cvs note c = noteChz cvs q)
    ∧ (r ≠ 0 → noteChz cvs q < noteChz cvs (q + 1)
      ∧ noteFreq cvs note c = noteChz cvs q + (noteChz cvs (q + 1) - noteChz cvs q) * r / 100))

/-- The attenuation model fits its field without clamping: the level is at most the template's, a louder velocity or volume
never attenuates more, and at volume 0 a carrier is silent (R175). -/
def Obligations.AttenuationLaw : Prop :=
  ∀ (T : Template) (vel : BitVec 7) (vol : BitVec 6) (car : Bool),
    63 - T.level.toNat ≤ attenuation T vel vol car ∧ attenuation T vel vol car ≤ 63
    ∧ (∀ vel' : BitVec 7, vel.toNat ≤ vel'.toNat → attenuation T vel' vol car ≤ attenuation T vel vol car)
    ∧ (∀ vol' : BitVec 6, vol.toNat ≤ vol'.toNat → attenuation T vel vol' car ≤ attenuation T vel vol car)
    ∧ attenuation T vel 0 true = 63 ∧ attenuation T vel 63 true = attenuation T vel 63 false
    ∧ (∀ (s : State) (k : SlotId) (h : Handle) (i : Fin 4), s.patch[s.slot[k].midiCh].op[i] = T →
      s.slot[k].velocity = vel → s.patch[s.slot[k].midiCh].volume = vol → (opType cvs s h i.val = .carrier ↔ car = true) →
      atten cvs s k h i = attenuation T vel vol car)

/-! ### Controllers -/

/-- The range tests of NOTE_OFF, PITCH_BEND and CTRL, the unassigned controllers, and the two controllers with a test of
their own (R86, R200, R201, R203, R224). The general CTRL row is refused on every word that decodes to it: that is its
whole effect. -/
def Obligations.EventRefused : Prop :=
  (∀ (s : State) (a b : Byte), 15 < a.toNat ∨ 127 < b.toNat → exec (.noteOff a b) s = .next (s.answer .outOfRange 0))
  ∧ (∀ (s : State) (a : Byte) (v : BitVec 16), 15 < a.toNat ∨ 16383 < v.toNat →
    exec (.pitchBend a v) s = .next (s.answer .outOfRange 0))
  ∧ (∀ (i : Instr) (a c : Byte) (s : State), ctrlOperands i = some (a, c) → 15 < a.toNat ∨ 127 < c.toNat →
    exec i s = .next (s.answer .outOfRange 0))
  ∧ (∀ (a b c : Byte) (s : State), Instr.wf cvs (.ctrl a b c) = true → exec (.ctrl a b c) s = .next (s.answer .outOfRange 0))
  ∧ (∀ (a c : Byte) (s : State), 10 < c.toNat → exec (.ctrlProgram a c) s = .next (s.answer .outOfRange 0))
  ∧ (∀ (a c : Byte) (s : State) (m : MidiId), a.toNat = m.val →
    s.patch[m].ctype ∈ ([.snare, .tomTom, .cymbal, .hiHat] : List ChType) →
    exec (.ctrlAlgorithm a c) s = .next (s.answer .outOfRange 0))

/-- On a channel with no bound voice a controller stores its scaled value in the patch, and nothing else happens (R87, R88,
R89, R200); LFO_DELAY does no more with bound voices (R206). -/
def Obligations.ControllerStores : Prop :=
  ∀ (s : State) (a c : Byte) (i : BitVec 2) (m : MidiId) (P : Patch) (T : Template) (stored : Patch → Host.Outcome State Fault Refusal),
    a.toNat = m.val → c.toNat ≤ 127 → P = s.patch[m] → T = P.op[i.toFin] →
    stored = (fun p => .next (State.answer { s with patch := s.patch.set m p } .ok 0)) →
    exec (.ctrlLfoDelay a c) s = stored { P with lfoDelay := c.setWidth 7 }
    ∧ (voicesOf s m (fun _ => true) = [] →
      (∀ t alg, ([(.twoOp, 0), (.twoOp, 1), (.fourOp, 0), (.fourOp, 1), (.fourOp, 2), (.fourOp, 3), (.kick, 0), (.snare, 0),
        (.tomTom, 0), (.cymbal, 0), (.hiHat, 0)] : List (ChType × BitVec 2))[c.toNat]? = some (t, alg) →
        exec (.ctrlProgram a c) s = stored { P with ctype := t, algorithm := alg })
      ∧ exec (.ctrlVolume a c) s = stored { P with volume := c.extractLsb' 1 6 }
      ∧ (P.ctype = .twoOp ∨ P.ctype = .kick →
        exec (.ctrlAlgorithm a c) s = stored { P with algorithm := (0 : BitVec 1) ++ c.extractLsb' 6 1 })
      ∧ (P.ctype = .fourOp → exec (.ctrlAlgorithm a c) s = stored { P with algorithm := c.extractLsb' 5 2 })
      ∧ exec (.ctrlFeedback a c) s = stored { P with fb := c.extractLsb' 4 3 }
      ∧ exec (.ctrlOutput a c) s = stored { P with out := c.extractLsb' 3 4 }
      ∧ exec (.ctrlOpAttack a i c) s = stored { P with op := P.op.set i.toFin { T with ar := c.extractLsb' 3 4 } }
      ∧ exec (.ctrlOpDecay a i c) s = stored { P with op := P.op.set i.toFin { T with dr := c.extractLsb' 3 4 } }
      ∧ exec (.ctrlOpSustain a i c) s = stored { P with op := P.op.set i.toFin { T with sl := c.extractLsb' 3 4 } }
      ∧ exec (.ctrlOpRelease a i c) s = stored { P with op := P.op.set i.toFin { T with rr := c.extractLsb' 3 4 } }
      ∧ exec (.ctrlOpWaveform a i c) s = stored { P with op := P.op.set i.toFin { T with ws := c.extractLsb' 4 3 } }
      ∧ exec (.ctrlOpLevel a i c) s = stored { P with op := P.op.set i.toFin { T with level := c.extractLsb' 1 6 } }
      ∧ exec (.ctrlOpKsl a i c) s = stored { P with op := P.op.set i.toFin { T with ksl := c.extractLsb' 5 2 } }
      ∧ exec (.ctrlOpMult a i c) s = stored { P with op := P.op.set i.toFin { T with mult := c.extractLsb' 3 4 } }
      ∧ exec (.ctrlOpTremolo a i c) s = stored { P with op := P.op.set i.toFin { T with trem := c.extractLsb' 6 1 } }
      ∧ exec (.ctrlOpVibrato a i c) s = stored { P with op := P.op.set i.toFin { T with vib := c.extractLsb' 6 1 } }
      ∧ exec (.ctrlOpSusflag a i c) s = stored { P with op := P.op.set i.toFin { T with sus := c.extractLsb' 6 1 } }
      ∧ exec (.ctrlOpEnvscale a i c) s = stored { P with op := P.op.set i.toFin { T with ksr := c.extractLsb' 6 1 } }
      ∧ exec (.ctrlOpVelsens a i c) s = stored { P with op := P.op.set i.toFin { T with velSens := c.extractLsb' 1 6 } }
      ∧ exec (.ctrlSustainPedal a c) s = stored { P with pedal := c.getLsbD 6 }
      ∧ exec (.ctrlAllSoundOff a c) s = stored P ∧ exec (.ctrlAllNotesOff a c) s = stored P)

/-- Step (b) of the operator-field controllers with a register of their own: the field of every operator of that index that a
bound voice of the channel owns takes the scaled value, with one register write each, in slot order; tremolo and vibrato
only for voices whose LFO is triggered (R207 to R212, R214 to R219). -/
def Obligations.OperatorControllers : Prop :=
  ∀ (s : State) (a c : Byte) (i : BitVec 2) (m : MidiId) (P : Patch) (T : Template),
    a.toNat = m.val → c.toNat ≤ 127 → P = s.patch[m] → T = P.op[i.toFin] →
    exec (.ctrlOpAttack a i c) s = .next (s.operCtrl m i.toFin (fun _ => true) { T with ar := c.extractLsb' 3 4 }
      (fun o => { o with ar := c.extractLsb' 3 4 }) 0x60 (Oper.attackDecayByte cvs))
    ∧ exec (.ctrlOpDecay a i c) s = .next (s.operCtrl m i.toFin (fun _ => true) { T with dr := c.extractLsb' 3 4 }
      (fun o => { o with dr := c.extractLsb' 3 4 }) 0x60 (Oper.attackDecayByte cvs))
    ∧ exec (.ctrlOpSustain a i c) s = .next (s.operCtrl m i.toFin (fun _ => true) { T with sl := c.extractLsb' 3 4 }
      (fun o => { o with sl := c.extractLsb' 3 4 }) 0x80 (Oper.sustainReleaseByte cvs))
    ∧ exec (.ctrlOpRelease a i c) s = .next (s.operCtrl m i.toFin (fun _ => true) { T with rr := c.extractLsb' 3 4 }
      (fun o => { o with rr := c.extractLsb' 3 4 }) 0x80 (Oper.sustainReleaseByte cvs))
    ∧ exec (.ctrlOpWaveform a i c) s = .next (s.operCtrl m i.toFin (fun _ => true) { T with ws := c.extractLsb' 4 3 }
      (fun o => { o with ws := c.extractLsb' 4 3 }) 0xE0 (Oper.waveByte cvs))
    ∧ exec (.ctrlOpKsl a i c) s = .next (s.operCtrl m i.toFin (fun _ => true) { T with ksl := c.extractLsb' 5 2 }
      (fun o => { o with ksl := c.extractLsb' 5 2 }) 0x40 (Oper.levelByte cvs))
    ∧ exec (.ctrlOpMult a i c) s = .next (s.operCtrl m i.toFin (fun _ => true) { T with mult := c.extractLsb' 3 4 }
      (fun o => { o with mult := c.extractLsb' 3 4 }) 0x20 (Oper.flagsByte cvs))
    ∧ exec (.ctrlOpSusflag a i c) s = .next (s.operCtrl m i.toFin (fun _ => true) { T with sus := c.extractLsb' 6 1 }
      (fun o => { o with sus := c.extractLsb' 6 1 }) 0x20 (Oper.flagsByte cvs))
    ∧ exec (.ctrlOpEnvscale a i c) s = .next (s.operCtrl m i.toFin (fun _ => true) { T with ksr := c.extractLsb' 6 1 }
      (fun o => { o with ksr := c.extractLsb' 6 1 }) 0x20 (Oper.flagsByte cvs))
    ∧ exec (.ctrlOpTremolo a i c) s = .next (s.operCtrl m i.toFin (·.lfoTriggered) { T with trem := c.extractLsb' 6 1 }
      (fun o => { o with trem := c.extractLsb' 6 1 }) 0x20 (Oper.flagsByte cvs))
    ∧ exec (.ctrlOpVibrato a i c) s = .next (s.operCtrl m i.toFin (·.lfoTriggered) { T with vib := c.extractLsb' 6 1 }
      (fun o => { o with vib := c.extractLsb' 6 1 }) 0x20 (Oper.flagsByte cvs))

/-- OP_LEVEL, OP_VELSENS and VOLUME with bound voices: the chip receives the recomputed attenuation, of the operators of that
index, or of the carriers alone for VOLUME (R202, R213, R220). -/
def Obligations.LevelControllers : Prop :=
  ∀ (s : State) (a c : Byte) (i : BitVec 2) (m : MidiId) (P : Patch) (T : Template),
    a.toNat = m.val → c.toNat ≤ 127 → P = s.patch[m] → T = P.op[i.toFin] →
    (∀ s', s' = { s with patch := s.patch.set m { P with op := P.op.set i.toFin { T with level := c.extractLsb' 1 6 } } } →
      exec (.ctrlOpLevel a i c) s = .next ((s'.attenuate (attenTargets s' m (fun _ j => j = i.toFin))).answer .ok 0))
    ∧ (∀ s', s' = { s with patch := s.patch.set m { P with op := P.op.set i.toFin { T with velSens := c.extractLsb' 1 6 } } } →
      exec (.ctrlOpVelsens a i c) s = .next ((s'.attenuate (attenTargets s' m (fun _ j => j = i.toFin))).answer .ok 0))
    ∧ (∀ s', s' = { s with patch := s.patch.set m { P with volume := c.extractLsb' 1 6 } } →
      exec (.ctrlVolume a c) s =
        .next ((s'.attenuate (attenTargets s' m (fun h j => opType cvs s' h j.val = .carrier))).answer .ok 0))

/-- ALGORITHM with any number of bound voices, each completely before the next in slot order: the connection bits, then every
attenuation of the voice, as the new connection makes its operators carriers (R170, R203). Then the same written out for one
bound voice of the patch's type. -/
def Obligations.AlgorithmController : Prop :=
  (∀ (s s' : State) (a c : Byte) (m : MidiId) (P : Patch) (alg : BitVec 2),
    a.toNat = m.val → c.toNat ≤ 127 → P = s.patch[m] →
    ((P.ctype = .twoOp ∨ P.ctype = .kick) ∧ alg = (0 : BitVec 1) ++ c.extractLsb' 6 1
      ∨ P.ctype = .fourOp ∧ alg = c.extractLsb' 5 2) →
    s' = { s with patch := s.patch.set m { P with algorithm := alg } } →
    exec (.ctrlAlgorithm a c) s = .next (((voicesOf s m (fun _ => true)).foldl
      (fun u kh => u.algorithmVoice alg kh.1 kh.2) s').answer .ok 0))
  ∧ ∀ (s : State) (a c : Byte) (m : MidiId) (P : Patch) (k : SlotId) (h : Handle) (p : PhysId),
    a.toNat = m.val → c.toNat ≤ 127 → P = s.patch[m] → voicesOf s m (fun _ => true) = [(k, h)] → s.allocd[h] = true →
    ctypeOf s h = P.ctype → physChan cvs h = p →
    (P.ctype = .twoOp ∨ P.ctype = .kick → ∃ (x : Chan) (s' : State), x = { s.chan[p] with cnt := c.extractLsb' 6 1 }
      ∧ s' = { s with patch := s.patch.set m { P with algorithm := (0 : BitVec 1) ++ c.extractLsb' 6 1 }, chan := s.chan.set p x }
      ∧ exec (.ctrlAlgorithm a c) s = .next ((State.attenuate (s'.sends [(chReg p 0xC0, x.outputByte cvs)])
          (attenTargets s' m (fun _ _ => true))).answer .ok 0))
    ∧ (P.ctype = .fourOp → ∃ (x y : Chan) (s' : State), x = { s.chan[p] with cnt := c.extractLsb' 6 1 }
      ∧ y = { s.chan[p + 3] with cnt := c.extractLsb' 5 1 }
      ∧ s' = { s with
          patch := s.patch.set m { P with algorithm := c.extractLsb' 5 2 }, chan := (s.chan.set p x).set (p + 3 : PhysId) y }
      ∧ exec (.ctrlAlgorithm a c) s = .next ((State.attenuate
          (s'.sends [(chReg p 0xC0, x.outputByte cvs), (chReg (p + 3) 0xC0, y.outputByte cvs)])
          (attenTargets s' m (fun _ _ => true))).answer .ok 0))

/-- FEEDBACK and OUTPUT with bound voices: one register write for each voice in slot order, two for FourOp under OUTPUT,
none for a single-operator role under FEEDBACK (R204, R205). -/
def Obligations.RoutingControllers : Prop :=
  ∀ (s : State) (a c : Byte) (m : MidiId) (P : Patch) (hs : List Handle), a.toNat = m.val → c.toNat ≤ 127 → P = s.patch[m] →
    hs = heldHandles s m (fun _ => true) →
    exec (.ctrlOutput a c) s = .next ((State.connect { s with patch := s.patch.set m { P with out := c.extractLsb' 3 4 } }
      (hs.flatMap (fun h => if ctypeOf s h = .fourOp then [physChan cvs h, physChan cvs h + 3] else [physChan cvs h]))
      (fun x => { x with out := c.extractLsb' 3 4 })).answer .ok 0)
    ∧ exec (.ctrlFeedback a c) s = .next ((State.connect { s with patch := s.patch.set m { P with fb := c.extractLsb' 4 3 } }
      ((hs.filter (fun h => ctypeOf s h ∉ ([.snare, .tomTom, .cymbal, .hiHat] : List ChType))).map (physChan cvs))
      (fun x => { x with fb := c.extractLsb' 4 3 })).answer .ok 0)

/-- ALL_SOUND_OFF and PROGRAM with any number of bound voices: the forced silence of each, completely before the next, in slot
order; PROGRAM then sets type and algorithm (R170, R201, R222). Then the same written out for one bound voice: key-off,
attenuation 63 and release 15 of every operator, frequency 0, and the handle and slot given up (R176). A voice whose handle is
not allocated is unbound and no more (R311 as log 10 reads it, DEDUCED). -/
def Obligations.ForcedSilence : Prop :=
  (∀ (s t : State) (a c : Byte) (m : MidiId), a.toNat = m.val → c.toNat ≤ 127 →
    t = (voicesOf s m (fun _ => true)).foldl (fun u kh => u.silenced kh.1 kh.2) s →
    exec (.ctrlAllSoundOff a c) s = .next (t.answer .ok 0)
    ∧ (∀ ty alg, ([(.twoOp, 0), (.twoOp, 1), (.fourOp, 0), (.fourOp, 1), (.fourOp, 2), (.fourOp, 3), (.kick, 0), (.snare, 0),
      (.tomTom, 0), (.cymbal, 0), (.hiHat, 0)] : List (ChType × BitVec 2))[c.toNat]? = some (ty, alg) →
      exec (.ctrlProgram a c) s = .next (State.answer
        { t with patch := s.patch.set m { s.patch[m] with ctype := ty, algorithm := alg } } .ok 0)))
  ∧ ∀ (s : State) (a c : Byte) (m : MidiId) (k : SlotId) (h : Handle) (p : PhysId), a.toNat = m.val → c.toNat ≤ 127 →
    voicesOf s m (fun _ => true) = [(k, h)] → s.allocd[h] = true → physChan cvs h = p →
    ∃ (x : Chan) (t : State), x = { s.chan[p] with fnum := 0, block := 0, keyOn := if h.val < 18 then 0 else s.chan[p].keyOn }
      ∧ t = State.sends { s.freed h with
          slot := s.slot.set k slotReset, chan := s.chan.set p x
          percKey := Vector.ofFn (fun r => if h = roleHandle r then false else s.percKey[r])
          oper := (opsOf cvs s h).foldl (fun (o : Vector Oper 36) (n : OperId) => o.set n { o[n] with tl := 63, rr := 15 }) s.oper }
          (keyOffWrites s s.percKey [h] ++ silenceWrites s (opsOf cvs s h)
            ++ [(chReg p 0xA0, x.fnumLowByte cvs), (chReg p 0xB0, x.keyBlockByte cvs)])
      ∧ exec (.ctrlAllSoundOff a c) s = .next (t.answer .ok 0)
      ∧ (∀ ty alg, ([(.twoOp, 0), (.twoOp, 1), (.fourOp, 0), (.fourOp, 1), (.fourOp, 2), (.fourOp, 3), (.kick, 0), (.snare, 0),
        (.tomTom, 0), (.cymbal, 0), (.hiHat, 0)] : List (ChType × BitVec 2))[c.toNat]? = some (ty, alg) →
        exec (.ctrlProgram a c) s = .next (State.answer
          { t with patch := s.patch.set m { s.patch[m] with ctype := ty, algorithm := alg } } .ok 0))

/-- ALL_SOUND_OFF with any number of voices: every bound voice of the channel ends Free with its handle free, its key bit 0,
its operators silent, its frequency 0, and its channel back in its type's pool; every other slot, handle, key bit and pool
member stays (R126, R176, R222). -/
def Obligations.AllSoundOffSilences : Prop :=
  ∀ (s : State) (a c : Byte) (m : MidiId), a.toNat = m.val → c.toNat ≤ 127 → SlotInv s →
    ∃ t, exec (.ctrlAllSoundOff a c) s = .next t ∧ t.result = 0x0000
      ∧ t.slot = s.slot.map (fun x => if chosen m (fun _ => true) x then slotReset else x)
      ∧ (∀ h : Handle, t.allocd[h] = (s.allocd[h] && !(heldHandles s m (fun _ => true)).contains h))
      ∧ (∀ h ∈ heldHandles s m (fun _ => true), (∀ n ∈ opsOf cvs s h, t.oper[n].tl = 63 ∧ t.oper[n].rr = 15)
        ∧ t.chan[physChan cvs h].fnum = 0 ∧ t.chan[physChan cvs h].block = 0)
      ∧ (∀ c : PhysId, t.chan[c].keyOn =
          if physHandle c ∈ heldHandles s m (fun _ => true) then 0 else s.chan[c].keyOn)
      ∧ (∀ r : RoleId, t.percKey[r] = (s.percKey[r] && !(heldHandles s m (fun _ => true)).contains (roleHandle r)))
      ∧ (∀ c : PhysId, t.free2[c] =
          (s.free2[c] || (s.ctype[c] == .twoOp && (heldHandles s m (fun _ => true)).contains (physHandle c))))
      ∧ (∀ c : PhysId, t.free4[c] =
          (s.free4[c] || (s.ctype[c] == .fourOp && (heldHandles s m (fun _ => true)).contains (physHandle c))))
      ∧ t.patch = s.patch ∧ t.ctype = s.ctype ∧ t.fourOpMask = s.fourOpMask

/-! ### SERVICE -/

/-- SERVICE on every slot: an unbound slot stays; a bound slot has its counters advanced and saturated and its LFO flag set once
its delay is exceeded, or it is freed, which befalls Releasing voices only; the value counts the freed (R241 to R244, R247). A
voice whose handle is not allocated is unbound by its expiry too, though its `Free` is refused: the model's reading of R311
(DEDUCED, log 10). -/
def Obligations.ServiceCounters : Prop :=
  ∀ (s : State) (v : BitVec 16), ∃ t, exec (.service v) s = .next t
    ∧ (∀ k : SlotId, (s.slot[k].lchan = none → t.slot[k] = s.slot[k])
      ∧ (s.slot[k].lchan ≠ none → t.slot[k] = s.slot[k].serviced s.patch[s.slot[k].midiCh] v
        ∨ (t.slot[k] = slotReset ∧ s.slot[k].releasing = true)))
    ∧ t.patch = s.patch
    ∧ t.result = resultWord .ok (BitVec.ofNat 8
        ((List.finRange 23).filter (fun k => s.slot[k].lchan.isSome && t.slot[k].lchan.isNone)).length)

/-- The release timer: a Releasing voice is freed exactly when the slowest cached release rate of its operators is not 0 and
its `RELEASE_MS` is exceeded. The voices share no operator, and the voice has one (the hazard of R311 apart) (R245 to R247).
A voice whose handle is not allocated is unbound all the same (R311 as log 10 reads it, DEDUCED). Then the whole next state for
one bound Releasing voice whose time is exceeded: the LFO writes first, if they are due, then the forced silence, the handle
given back, and the value 1 (R176, R241, R243, R249). -/
def Obligations.ReleaseExpiry : Prop :=
  (∀ (s : State) (v : BitVec 16),
    (∀ (k l : SlotId) (h g : Handle), s.slot[k].lchan = some h → s.slot[l].lchan = some g → k ≠ l →
      ∀ n ∈ opsOf cvs s h, n ∉ opsOf cvs s g) →
    ∃ t, exec (.service v) s = .next t ∧ ∀ (k : SlotId) (h : Handle) (r : Nat), s.slot[k].lchan = some h →
      s.slot[k].releasing = true → slowest s h = some r →
      (t.slot[k].lchan = none ↔ releaseOver r (counted s.slot[k].releaseDuration v).toNat = true))
  ∧ ∀ (s : State) (v : BitVec 16) (k : SlotId) (h : Handle) (p : PhysId) (P : Patch) (r : Nat)
      (ts : List (OperId × BitVec 1 × BitVec 1)),
    s.slot[k].lchan = some h → (∀ j : SlotId, j ≠ k → s.slot[j].lchan = none) → s.slot[k].releasing = true →
    s.allocd[h] = true → physChan cvs h = p → P = s.patch[s.slot[k].midiCh] →
    slowest s h = some r → releaseOver r (counted s.slot[k].releaseDuration v).toNat = true →
    ts = (if s.slot[k].lfoTriggered = false ∧ P.lfoDelay.toNat * 32 < (counted s.slot[k].duration v).toNat
      then lfoTargets s P h else []) →
    ∃ (x : Chan) (os : Vector Oper 36),
      x = { s.chan[p] with fnum := 0, block := 0, keyOn := if h.val < 18 then 0 else s.chan[p].keyOn }
      ∧ os = ts.foldl (fun (o : Vector Oper 36) q => o.set q.1 (o[q.1].modulated q.2.1 q.2.2)) s.oper
      ∧ exec (.service v) s = .next ((State.sends { s.freed h with
          slot := s.slot.set k slotReset, chan := s.chan.set p x
          percKey := Vector.ofFn (fun r => if h = roleHandle r then false else s.percKey[r])
          oper := (opsOf cvs s h).foldl (fun (o : Vector Oper 36) (n : OperId) => o.set n { o[n] with tl := 63, rr := 15 }) os }
        (ts.map (fun q => (opReg q.1 0x20, (s.oper[q.1].modulated q.2.1 q.2.2).flagsByte cvs))
          ++ keyOffWrites s s.percKey [h] ++ silenceWrites s (opsOf cvs s h)
          ++ [(chReg p 0xA0, x.fnumLowByte cvs), (chReg p 0xB0, x.keyBlockByte cvs)])).answer .ok 1)

/-- SERVICE whole, with any number of bound voices, each completely before the next in slot order: counters, LFO flags with
their register writes, and the forced silence of a Releasing voice whose time is exceeded; the value counts the freed. A
Releasing voice has an operator (R245 says nothing of none; log 4). Then the LFO start delay written out for one bound voice
that is not freed: when the delay is exceeded for the first time, the operators whose templates request modulation get both
flags from the template with one register write each, ascending; otherwise nothing is written (R241 to R247, R249). For a voice
whose handle is not allocated, which only the hazard of R311 brings about, the model's reading is that the flag writes are made
(DEDUCED, log 9) and that its expiry unbinds it (DEDUCED, log 10). -/
def Obligations.LfoStart : Prop :=
  (∀ (s t : State) (v : BitVec 16),
    (∀ (k : SlotId) (h : Handle), s.slot[k].lchan = some h → s.slot[k].releasing = true → opsOf cvs s h ≠ []) →
    t = allSlots.foldl (State.serviceSlot v) s →
    exec (.service v) s = .next (t.answer .ok (BitVec.ofNat 8
      ((List.finRange 23).filter (fun k => s.slot[k].lchan.isSome && t.slot[k].lchan.isNone)).length)))
  ∧ ∀ (s : State) (v : BitVec 16) (k : SlotId) (h : Handle) (P : Patch) (ts : List (OperId × BitVec 1 × BitVec 1)),
    s.slot[k].lchan = some h → (∀ j : SlotId, j ≠ k → s.slot[j].lchan = none) → P = s.patch[s.slot[k].midiCh] →
    (s.slot[k].releasing = true → ∃ r, slowest s h = some r ∧ releaseOver r (counted s.slot[k].releaseDuration v).toNat = false) →
    ts = (if s.slot[k].lfoTriggered = false ∧ P.lfoDelay.toNat * 32 < (counted s.slot[k].duration v).toNat
      then lfoTargets s P h else []) →
    exec (.service v) s = .next ((State.sends { s with
        slot := s.slot.set k (s.slot[k].serviced P v)
        oper := ts.foldl (fun o q => o.set q.1 (o[q.1].modulated q.2.1 q.2.2)) s.oper }
      (ts.map (fun q => (opReg q.1 0x20, (s.oper[q.1].modulated q.2.1 q.2.2).flagsByte cvs)))).answer .ok 0)
end

