-- ==== Sys2Proof/Laws/Memory.lean ====
section
/-! SUPPORT. The chip's register space: read after write, and the canonical form kept. -/

namespace Sys2Proof.Machine

/-- The canonical form of the chip's register list bounds every later address from below. -/
theorem Memory.read_eq_none_of_lt {m : List Host.Cell} {a : Nat} (h : ∀ p ∈ m, a < p.1) : Memory.read m a = none := by
  simp only [Memory.read, Option.map_eq_none_iff, List.find?_eq_none, beq_iff_eq]
  intro p hp
  have := h p hp
  omega

/-- What a read finds in a list with one more entry in front. -/
theorem Memory.read_cons (p : Host.Cell) (m : List Host.Cell) (b : Nat) :
    Memory.read (p :: m) b = if p.1 = b then some p.2 else Memory.read m b := by
  by_cases h : p.1 = b <;> simp [Memory.read, h]

/-- Read after write: the written address reads as the byte, every other as before, in any list. -/
theorem Memory.read_write (m : List Host.Cell) (a b : Nat) (v : Byte) :
    Memory.read (Memory.write m a v) b = if b = a then some v else Memory.read m b := by
  induction m with
  | nil =>
    simp only [Memory.write, Memory.read_cons]
    by_cases h : b = a
    · simp [h]
    · simp [h, Ne.symm h]
  | cons p m ih =>
    simp only [Memory.write]
    split
    · simp only [Memory.read_cons]
      by_cases h : b = a
      · simp [h]
      · simp [h, Ne.symm h]
    · split
      · simp only [Memory.read_cons]
        by_cases h : b = a
        · simp [h]
        · have : p.1 ≠ b := by omega
          simp [h, this, Ne.symm h]
      · simp only [Memory.read_cons, ih]
        by_cases h : b = a
        · have : p.1 ≠ b := by omega
          subst h; simp [this]
        · simp [h]

/-- Every address of a written list is the written one or was there before. -/
theorem Memory.mem_write {m : List Host.Cell} {a : Nat} {v : Byte} {p : Host.Cell} (h : p ∈ Memory.write m a v) :
    p.1 = a ∨ p ∈ m := by
  induction m with
  | nil => simp_all [Memory.write]
  | cons q m ih =>
    simp only [Memory.write] at h
    split at h
    · simp only [List.mem_cons] at h ⊢
      rcases h with rfl | h
      · simp
      · exact .inr h
    · split at h
      · simp only [List.mem_cons] at h ⊢
        rcases h with rfl | h
        · simp
        · exact .inr (.inr h)
      · simp only [List.mem_cons] at h ⊢
        rcases h with rfl | h
        · simp
        · rcases ih h with h | h
          · exact .inl h
          · exact .inr (.inr h)

/-- A write keeps the canonical form. -/
theorem Memory.wf_write {m : List Host.Cell} (h : Memory.wf m) (a : Nat) (v : Byte) : Memory.wf (Memory.write m a v) := by
  induction m with
  | nil => simp [Memory.write, Memory.wf]
  | cons p m ih =>
    simp only [Memory.wf, List.pairwise_cons] at h ih ⊢
    simp only [Memory.write]
    split
    · simp only [List.pairwise_cons, List.mem_cons, forall_eq_or_imp]
      refine ⟨⟨by assumption, fun q hq => ?_⟩, h⟩
      have := h.1 q hq
      omega
    · split
      · simp only [List.pairwise_cons]
        refine ⟨fun q hq => ?_, h.2⟩
        have := h.1 q hq
        omega
      · simp only [List.pairwise_cons]
        refine ⟨fun q hq => ?_, ih h.2⟩
        rcases Memory.mem_write hq with h' | h'
        · omega
        · exact h.1 q h'

/-- The memory of the reset state has the canonical form. -/
theorem Memory.wf_reset : Memory.wf State.reset.chipRegs := by simp [State.reset, State.resetWith]

/-- Two register addresses of the chip are the same cell only if they are the same register. -/
theorem chipAddr_eq_iff (x y : SetId) (r q : Byte) : chipAddr x r = chipAddr y q ↔ x = y ∧ r = q := by
  have hr := r.isLt
  have hq := q.isLt
  simp only [chipAddr, Fin.ext_iff, BitVec.toNat_eq]
  omega

end Sys2Proof.Machine
end

