-- ==== Sys2Proof/Laws/State.lean ====
section
/-! SUPPORT. One lemma per field and update of `State`, so that no proof unfolds a record update. -/

namespace Sys2Proof.Machine

variable (s : State)

/-! ### `answer` -/

@[simp] theorem answer_ctype (c : Code) (v : Byte) : (s.answer c v).ctype = s.ctype := rfl
@[simp] theorem answer_allocd (c : Code) (v : Byte) : (s.answer c v).allocd = s.allocd := rfl
@[simp] theorem answer_free2 (c : Code) (v : Byte) : (s.answer c v).free2 = s.free2 := rfl
@[simp] theorem answer_free4 (c : Code) (v : Byte) : (s.answer c v).free4 = s.free4 := rfl
@[simp] theorem answer_percEnabled (c : Code) (v : Byte) : (s.answer c v).percEnabled = s.percEnabled := rfl
@[simp] theorem answer_percKey (c : Code) (v : Byte) : (s.answer c v).percKey = s.percKey := rfl
@[simp] theorem answer_fourOpMask (c : Code) (v : Byte) : (s.answer c v).fourOpMask = s.fourOpMask := rfl
@[simp] theorem answer_chan (c : Code) (v : Byte) : (s.answer c v).chan = s.chan := rfl
@[simp] theorem answer_oper (c : Code) (v : Byte) : (s.answer c v).oper = s.oper := rfl
@[simp] theorem answer_patch (c : Code) (v : Byte) : (s.answer c v).patch = s.patch := rfl
@[simp] theorem answer_slot (c : Code) (v : Byte) : (s.answer c v).slot = s.slot := rfl
@[simp] theorem answer_result (c : Code) (v : Byte) : (s.answer c v).result = resultWord c v := rfl
@[simp] theorem answer_busy (c : Code) (v : Byte) : (s.answer c v).busy = false := rfl
@[simp] theorem answer_cmd (c : Code) (v : Byte) : (s.answer c v).cmd = s.cmd := rfl
@[simp] theorem answer_inputs (c : Code) (v : Byte) : (s.answer c v).inputs = s.inputs := rfl
@[simp] theorem answer_reads (c : Code) (v : Byte) : (s.answer c v).reads = s.reads := rfl
@[simp] theorem answer_draws (c : Code) (v : Byte) : (s.answer c v).draws = s.draws := rfl
@[simp] theorem answer_latch (c : Code) (v : Byte) : (s.answer c v).latch = s.latch := rfl
@[simp] theorem answer_chipRegs (c : Code) (v : Byte) : (s.answer c v).chipRegs = s.chipRegs := rfl
@[simp] theorem answer_trace (c : Code) (v : Byte) : (s.answer c v).trace = s.trace := rfl

/-! ### `updChan` -/

@[simp] theorem updChan_ctype (c : PhysId) (f : Chan → Chan) : (s.updChan c f).ctype = s.ctype := rfl
@[simp] theorem updChan_allocd (c : PhysId) (f : Chan → Chan) : (s.updChan c f).allocd = s.allocd := rfl
@[simp] theorem updChan_free2 (c : PhysId) (f : Chan → Chan) : (s.updChan c f).free2 = s.free2 := rfl
@[simp] theorem updChan_free4 (c : PhysId) (f : Chan → Chan) : (s.updChan c f).free4 = s.free4 := rfl
@[simp] theorem updChan_percEnabled (c : PhysId) (f : Chan → Chan) : (s.updChan c f).percEnabled = s.percEnabled := rfl
@[simp] theorem updChan_percKey (c : PhysId) (f : Chan → Chan) : (s.updChan c f).percKey = s.percKey := rfl
@[simp] theorem updChan_fourOpMask (c : PhysId) (f : Chan → Chan) : (s.updChan c f).fourOpMask = s.fourOpMask := rfl
@[simp] theorem updChan_chan (c : PhysId) (f : Chan → Chan) : (s.updChan c f).chan = s.chan.set c (f s.chan[c]) := rfl
@[simp] theorem updChan_oper (c : PhysId) (f : Chan → Chan) : (s.updChan c f).oper = s.oper := rfl
@[simp] theorem updChan_patch (c : PhysId) (f : Chan → Chan) : (s.updChan c f).patch = s.patch := rfl
@[simp] theorem updChan_slot (c : PhysId) (f : Chan → Chan) : (s.updChan c f).slot = s.slot := rfl
@[simp] theorem updChan_result (c : PhysId) (f : Chan → Chan) : (s.updChan c f).result = s.result := rfl
@[simp] theorem updChan_busy (c : PhysId) (f : Chan → Chan) : (s.updChan c f).busy = s.busy := rfl
@[simp] theorem updChan_cmd (c : PhysId) (f : Chan → Chan) : (s.updChan c f).cmd = s.cmd := rfl
@[simp] theorem updChan_inputs (c : PhysId) (f : Chan → Chan) : (s.updChan c f).inputs = s.inputs := rfl
@[simp] theorem updChan_reads (c : PhysId) (f : Chan → Chan) : (s.updChan c f).reads = s.reads := rfl
@[simp] theorem updChan_draws (c : PhysId) (f : Chan → Chan) : (s.updChan c f).draws = s.draws := rfl
@[simp] theorem updChan_latch (c : PhysId) (f : Chan → Chan) : (s.updChan c f).latch = s.latch := rfl
@[simp] theorem updChan_chipRegs (c : PhysId) (f : Chan → Chan) : (s.updChan c f).chipRegs = s.chipRegs := rfl
@[simp] theorem updChan_trace (c : PhysId) (f : Chan → Chan) : (s.updChan c f).trace = s.trace := rfl

/-! ### `updOper` -/

@[simp] theorem updOper_ctype (n : OperId) (f : Oper → Oper) : (s.updOper n f).ctype = s.ctype := rfl
@[simp] theorem updOper_allocd (n : OperId) (f : Oper → Oper) : (s.updOper n f).allocd = s.allocd := rfl
@[simp] theorem updOper_free2 (n : OperId) (f : Oper → Oper) : (s.updOper n f).free2 = s.free2 := rfl
@[simp] theorem updOper_free4 (n : OperId) (f : Oper → Oper) : (s.updOper n f).free4 = s.free4 := rfl
@[simp] theorem updOper_percEnabled (n : OperId) (f : Oper → Oper) : (s.updOper n f).percEnabled = s.percEnabled := rfl
@[simp] theorem updOper_percKey (n : OperId) (f : Oper → Oper) : (s.updOper n f).percKey = s.percKey := rfl
@[simp] theorem updOper_fourOpMask (n : OperId) (f : Oper → Oper) : (s.updOper n f).fourOpMask = s.fourOpMask := rfl
@[simp] theorem updOper_chan (n : OperId) (f : Oper → Oper) : (s.updOper n f).chan = s.chan := rfl
@[simp] theorem updOper_oper (n : OperId) (f : Oper → Oper) : (s.updOper n f).oper = s.oper.set n (f s.oper[n]) := rfl
@[simp] theorem updOper_patch (n : OperId) (f : Oper → Oper) : (s.updOper n f).patch = s.patch := rfl
@[simp] theorem updOper_slot (n : OperId) (f : Oper → Oper) : (s.updOper n f).slot = s.slot := rfl
@[simp] theorem updOper_result (n : OperId) (f : Oper → Oper) : (s.updOper n f).result = s.result := rfl
@[simp] theorem updOper_busy (n : OperId) (f : Oper → Oper) : (s.updOper n f).busy = s.busy := rfl
@[simp] theorem updOper_cmd (n : OperId) (f : Oper → Oper) : (s.updOper n f).cmd = s.cmd := rfl
@[simp] theorem updOper_inputs (n : OperId) (f : Oper → Oper) : (s.updOper n f).inputs = s.inputs := rfl
@[simp] theorem updOper_reads (n : OperId) (f : Oper → Oper) : (s.updOper n f).reads = s.reads := rfl
@[simp] theorem updOper_draws (n : OperId) (f : Oper → Oper) : (s.updOper n f).draws = s.draws := rfl
@[simp] theorem updOper_latch (n : OperId) (f : Oper → Oper) : (s.updOper n f).latch = s.latch := rfl
@[simp] theorem updOper_chipRegs (n : OperId) (f : Oper → Oper) : (s.updOper n f).chipRegs = s.chipRegs := rfl
@[simp] theorem updOper_trace (n : OperId) (f : Oper → Oper) : (s.updOper n f).trace = s.trace := rfl

/-! ### `updPatch` -/

@[simp] theorem updPatch_ctype (m : MidiId) (f : Patch → Patch) : (s.updPatch m f).ctype = s.ctype := rfl
@[simp] theorem updPatch_allocd (m : MidiId) (f : Patch → Patch) : (s.updPatch m f).allocd = s.allocd := rfl
@[simp] theorem updPatch_free2 (m : MidiId) (f : Patch → Patch) : (s.updPatch m f).free2 = s.free2 := rfl
@[simp] theorem updPatch_free4 (m : MidiId) (f : Patch → Patch) : (s.updPatch m f).free4 = s.free4 := rfl
@[simp] theorem updPatch_percEnabled (m : MidiId) (f : Patch → Patch) : (s.updPatch m f).percEnabled = s.percEnabled := rfl
@[simp] theorem updPatch_percKey (m : MidiId) (f : Patch → Patch) : (s.updPatch m f).percKey = s.percKey := rfl
@[simp] theorem updPatch_fourOpMask (m : MidiId) (f : Patch → Patch) : (s.updPatch m f).fourOpMask = s.fourOpMask := rfl
@[simp] theorem updPatch_chan (m : MidiId) (f : Patch → Patch) : (s.updPatch m f).chan = s.chan := rfl
@[simp] theorem updPatch_oper (m : MidiId) (f : Patch → Patch) : (s.updPatch m f).oper = s.oper := rfl
@[simp] theorem updPatch_patch (m : MidiId) (f : Patch → Patch) : (s.updPatch m f).patch = s.patch.set m (f s.patch[m]) := rfl
@[simp] theorem updPatch_slot (m : MidiId) (f : Patch → Patch) : (s.updPatch m f).slot = s.slot := rfl
@[simp] theorem updPatch_result (m : MidiId) (f : Patch → Patch) : (s.updPatch m f).result = s.result := rfl
@[simp] theorem updPatch_busy (m : MidiId) (f : Patch → Patch) : (s.updPatch m f).busy = s.busy := rfl
@[simp] theorem updPatch_cmd (m : MidiId) (f : Patch → Patch) : (s.updPatch m f).cmd = s.cmd := rfl
@[simp] theorem updPatch_inputs (m : MidiId) (f : Patch → Patch) : (s.updPatch m f).inputs = s.inputs := rfl
@[simp] theorem updPatch_reads (m : MidiId) (f : Patch → Patch) : (s.updPatch m f).reads = s.reads := rfl
@[simp] theorem updPatch_draws (m : MidiId) (f : Patch → Patch) : (s.updPatch m f).draws = s.draws := rfl
@[simp] theorem updPatch_latch (m : MidiId) (f : Patch → Patch) : (s.updPatch m f).latch = s.latch := rfl
@[simp] theorem updPatch_chipRegs (m : MidiId) (f : Patch → Patch) : (s.updPatch m f).chipRegs = s.chipRegs := rfl
@[simp] theorem updPatch_trace (m : MidiId) (f : Patch → Patch) : (s.updPatch m f).trace = s.trace := rfl

/-! ### `updSlot` -/

@[simp] theorem updSlot_ctype (k : SlotId) (f : Slot → Slot) : (s.updSlot k f).ctype = s.ctype := rfl
@[simp] theorem updSlot_allocd (k : SlotId) (f : Slot → Slot) : (s.updSlot k f).allocd = s.allocd := rfl
@[simp] theorem updSlot_free2 (k : SlotId) (f : Slot → Slot) : (s.updSlot k f).free2 = s.free2 := rfl
@[simp] theorem updSlot_free4 (k : SlotId) (f : Slot → Slot) : (s.updSlot k f).free4 = s.free4 := rfl
@[simp] theorem updSlot_percEnabled (k : SlotId) (f : Slot → Slot) : (s.updSlot k f).percEnabled = s.percEnabled := rfl
@[simp] theorem updSlot_percKey (k : SlotId) (f : Slot → Slot) : (s.updSlot k f).percKey = s.percKey := rfl
@[simp] theorem updSlot_fourOpMask (k : SlotId) (f : Slot → Slot) : (s.updSlot k f).fourOpMask = s.fourOpMask := rfl
@[simp] theorem updSlot_chan (k : SlotId) (f : Slot → Slot) : (s.updSlot k f).chan = s.chan := rfl
@[simp] theorem updSlot_oper (k : SlotId) (f : Slot → Slot) : (s.updSlot k f).oper = s.oper := rfl
@[simp] theorem updSlot_patch (k : SlotId) (f : Slot → Slot) : (s.updSlot k f).patch = s.patch := rfl
@[simp] theorem updSlot_slot (k : SlotId) (f : Slot → Slot) : (s.updSlot k f).slot = s.slot.set k (f s.slot[k]) := rfl
@[simp] theorem updSlot_result (k : SlotId) (f : Slot → Slot) : (s.updSlot k f).result = s.result := rfl
@[simp] theorem updSlot_busy (k : SlotId) (f : Slot → Slot) : (s.updSlot k f).busy = s.busy := rfl
@[simp] theorem updSlot_cmd (k : SlotId) (f : Slot → Slot) : (s.updSlot k f).cmd = s.cmd := rfl
@[simp] theorem updSlot_inputs (k : SlotId) (f : Slot → Slot) : (s.updSlot k f).inputs = s.inputs := rfl
@[simp] theorem updSlot_reads (k : SlotId) (f : Slot → Slot) : (s.updSlot k f).reads = s.reads := rfl
@[simp] theorem updSlot_draws (k : SlotId) (f : Slot → Slot) : (s.updSlot k f).draws = s.draws := rfl
@[simp] theorem updSlot_latch (k : SlotId) (f : Slot → Slot) : (s.updSlot k f).latch = s.latch := rfl
@[simp] theorem updSlot_chipRegs (k : SlotId) (f : Slot → Slot) : (s.updSlot k f).chipRegs = s.chipRegs := rfl
@[simp] theorem updSlot_trace (k : SlotId) (f : Slot → Slot) : (s.updSlot k f).trace = s.trace := rfl

/-! ### `setAllocd` -/

@[simp] theorem setAllocd_ctype (h : Handle) (b : Bool) : (s.setAllocd h b).ctype = s.ctype := rfl
@[simp] theorem setAllocd_allocd (h : Handle) (b : Bool) : (s.setAllocd h b).allocd = s.allocd.set h b := rfl
@[simp] theorem setAllocd_free2 (h : Handle) (b : Bool) : (s.setAllocd h b).free2 = s.free2 := rfl
@[simp] theorem setAllocd_free4 (h : Handle) (b : Bool) : (s.setAllocd h b).free4 = s.free4 := rfl
@[simp] theorem setAllocd_percEnabled (h : Handle) (b : Bool) : (s.setAllocd h b).percEnabled = s.percEnabled := rfl
@[simp] theorem setAllocd_percKey (h : Handle) (b : Bool) : (s.setAllocd h b).percKey = s.percKey := rfl
@[simp] theorem setAllocd_fourOpMask (h : Handle) (b : Bool) : (s.setAllocd h b).fourOpMask = s.fourOpMask := rfl
@[simp] theorem setAllocd_chan (h : Handle) (b : Bool) : (s.setAllocd h b).chan = s.chan := rfl
@[simp] theorem setAllocd_oper (h : Handle) (b : Bool) : (s.setAllocd h b).oper = s.oper := rfl
@[simp] theorem setAllocd_patch (h : Handle) (b : Bool) : (s.setAllocd h b).patch = s.patch := rfl
@[simp] theorem setAllocd_slot (h : Handle) (b : Bool) : (s.setAllocd h b).slot = s.slot := rfl
@[simp] theorem setAllocd_result (h : Handle) (b : Bool) : (s.setAllocd h b).result = s.result := rfl
@[simp] theorem setAllocd_busy (h : Handle) (b : Bool) : (s.setAllocd h b).busy = s.busy := rfl
@[simp] theorem setAllocd_cmd (h : Handle) (b : Bool) : (s.setAllocd h b).cmd = s.cmd := rfl
@[simp] theorem setAllocd_inputs (h : Handle) (b : Bool) : (s.setAllocd h b).inputs = s.inputs := rfl
@[simp] theorem setAllocd_reads (h : Handle) (b : Bool) : (s.setAllocd h b).reads = s.reads := rfl
@[simp] theorem setAllocd_draws (h : Handle) (b : Bool) : (s.setAllocd h b).draws = s.draws := rfl
@[simp] theorem setAllocd_latch (h : Handle) (b : Bool) : (s.setAllocd h b).latch = s.latch := rfl
@[simp] theorem setAllocd_chipRegs (h : Handle) (b : Bool) : (s.setAllocd h b).chipRegs = s.chipRegs := rfl
@[simp] theorem setAllocd_trace (h : Handle) (b : Bool) : (s.setAllocd h b).trace = s.trace := rfl

/-! ### `setFree2` -/

@[simp] theorem setFree2_ctype (c : PhysId) (b : Bool) : (s.setFree2 c b).ctype = s.ctype := rfl
@[simp] theorem setFree2_allocd (c : PhysId) (b : Bool) : (s.setFree2 c b).allocd = s.allocd := rfl
@[simp] theorem setFree2_free2 (c : PhysId) (b : Bool) : (s.setFree2 c b).free2 = s.free2.set c b := rfl
@[simp] theorem setFree2_free4 (c : PhysId) (b : Bool) : (s.setFree2 c b).free4 = s.free4 := rfl
@[simp] theorem setFree2_percEnabled (c : PhysId) (b : Bool) : (s.setFree2 c b).percEnabled = s.percEnabled := rfl
@[simp] theorem setFree2_percKey (c : PhysId) (b : Bool) : (s.setFree2 c b).percKey = s.percKey := rfl
@[simp] theorem setFree2_fourOpMask (c : PhysId) (b : Bool) : (s.setFree2 c b).fourOpMask = s.fourOpMask := rfl
@[simp] theorem setFree2_chan (c : PhysId) (b : Bool) : (s.setFree2 c b).chan = s.chan := rfl
@[simp] theorem setFree2_oper (c : PhysId) (b : Bool) : (s.setFree2 c b).oper = s.oper := rfl
@[simp] theorem setFree2_patch (c : PhysId) (b : Bool) : (s.setFree2 c b).patch = s.patch := rfl
@[simp] theorem setFree2_slot (c : PhysId) (b : Bool) : (s.setFree2 c b).slot = s.slot := rfl
@[simp] theorem setFree2_result (c : PhysId) (b : Bool) : (s.setFree2 c b).result = s.result := rfl
@[simp] theorem setFree2_busy (c : PhysId) (b : Bool) : (s.setFree2 c b).busy = s.busy := rfl
@[simp] theorem setFree2_cmd (c : PhysId) (b : Bool) : (s.setFree2 c b).cmd = s.cmd := rfl
@[simp] theorem setFree2_inputs (c : PhysId) (b : Bool) : (s.setFree2 c b).inputs = s.inputs := rfl
@[simp] theorem setFree2_reads (c : PhysId) (b : Bool) : (s.setFree2 c b).reads = s.reads := rfl
@[simp] theorem setFree2_draws (c : PhysId) (b : Bool) : (s.setFree2 c b).draws = s.draws := rfl
@[simp] theorem setFree2_latch (c : PhysId) (b : Bool) : (s.setFree2 c b).latch = s.latch := rfl
@[simp] theorem setFree2_chipRegs (c : PhysId) (b : Bool) : (s.setFree2 c b).chipRegs = s.chipRegs := rfl
@[simp] theorem setFree2_trace (c : PhysId) (b : Bool) : (s.setFree2 c b).trace = s.trace := rfl

/-! ### `setFree4` -/

@[simp] theorem setFree4_ctype (c : PhysId) (b : Bool) : (s.setFree4 c b).ctype = s.ctype := rfl
@[simp] theorem setFree4_allocd (c : PhysId) (b : Bool) : (s.setFree4 c b).allocd = s.allocd := rfl
@[simp] theorem setFree4_free2 (c : PhysId) (b : Bool) : (s.setFree4 c b).free2 = s.free2 := rfl
@[simp] theorem setFree4_free4 (c : PhysId) (b : Bool) : (s.setFree4 c b).free4 = s.free4.set c b := rfl
@[simp] theorem setFree4_percEnabled (c : PhysId) (b : Bool) : (s.setFree4 c b).percEnabled = s.percEnabled := rfl
@[simp] theorem setFree4_percKey (c : PhysId) (b : Bool) : (s.setFree4 c b).percKey = s.percKey := rfl
@[simp] theorem setFree4_fourOpMask (c : PhysId) (b : Bool) : (s.setFree4 c b).fourOpMask = s.fourOpMask := rfl
@[simp] theorem setFree4_chan (c : PhysId) (b : Bool) : (s.setFree4 c b).chan = s.chan := rfl
@[simp] theorem setFree4_oper (c : PhysId) (b : Bool) : (s.setFree4 c b).oper = s.oper := rfl
@[simp] theorem setFree4_patch (c : PhysId) (b : Bool) : (s.setFree4 c b).patch = s.patch := rfl
@[simp] theorem setFree4_slot (c : PhysId) (b : Bool) : (s.setFree4 c b).slot = s.slot := rfl
@[simp] theorem setFree4_result (c : PhysId) (b : Bool) : (s.setFree4 c b).result = s.result := rfl
@[simp] theorem setFree4_busy (c : PhysId) (b : Bool) : (s.setFree4 c b).busy = s.busy := rfl
@[simp] theorem setFree4_cmd (c : PhysId) (b : Bool) : (s.setFree4 c b).cmd = s.cmd := rfl
@[simp] theorem setFree4_inputs (c : PhysId) (b : Bool) : (s.setFree4 c b).inputs = s.inputs := rfl
@[simp] theorem setFree4_reads (c : PhysId) (b : Bool) : (s.setFree4 c b).reads = s.reads := rfl
@[simp] theorem setFree4_draws (c : PhysId) (b : Bool) : (s.setFree4 c b).draws = s.draws := rfl
@[simp] theorem setFree4_latch (c : PhysId) (b : Bool) : (s.setFree4 c b).latch = s.latch := rfl
@[simp] theorem setFree4_chipRegs (c : PhysId) (b : Bool) : (s.setFree4 c b).chipRegs = s.chipRegs := rfl
@[simp] theorem setFree4_trace (c : PhysId) (b : Bool) : (s.setFree4 c b).trace = s.trace := rfl

/-! ### `resetBlock` -/

@[simp] theorem resetBlock_ctype : (s.resetBlock cvs).ctype = State.reset.ctype := rfl
@[simp] theorem resetBlock_allocd : (s.resetBlock cvs).allocd = State.reset.allocd := rfl
@[simp] theorem resetBlock_free2 : (s.resetBlock cvs).free2 = State.reset.free2 := rfl
@[simp] theorem resetBlock_free4 : (s.resetBlock cvs).free4 = State.reset.free4 := rfl
@[simp] theorem resetBlock_percEnabled : (s.resetBlock cvs).percEnabled = State.reset.percEnabled := rfl
@[simp] theorem resetBlock_percKey : (s.resetBlock cvs).percKey = State.reset.percKey := rfl
@[simp] theorem resetBlock_fourOpMask : (s.resetBlock cvs).fourOpMask = State.reset.fourOpMask := rfl
@[simp] theorem resetBlock_chan : (s.resetBlock cvs).chan = State.reset.chan := rfl
@[simp] theorem resetBlock_oper : (s.resetBlock cvs).oper = State.reset.oper := rfl
@[simp] theorem resetBlock_patch : (s.resetBlock cvs).patch = State.reset.patch := rfl
@[simp] theorem resetBlock_slot : (s.resetBlock cvs).slot = State.reset.slot := rfl
@[simp] theorem resetBlock_result : (s.resetBlock cvs).result = State.reset.result := rfl
@[simp] theorem resetBlock_busy : (s.resetBlock cvs).busy = State.reset.busy := rfl
@[simp] theorem resetBlock_cmd : (s.resetBlock cvs).cmd = s.cmd := rfl
@[simp] theorem resetBlock_inputs : (s.resetBlock cvs).inputs = s.inputs := rfl
@[simp] theorem resetBlock_reads : (s.resetBlock cvs).reads = s.reads := rfl
@[simp] theorem resetBlock_draws : (s.resetBlock cvs).draws = s.draws := rfl
@[simp] theorem resetBlock_latch : (s.resetBlock cvs).latch = s.latch := rfl
@[simp] theorem resetBlock_chipRegs : (s.resetBlock cvs).chipRegs = s.chipRegs := rfl
@[simp] theorem resetBlock_trace : (s.resetBlock cvs).trace = s.trace := rfl

end Sys2Proof.Machine
end

