-- ==== Sys2Proof/Laws/Bus.lean ====
section
/-! SUPPORT. What the bus operations do: every register write is one `State.sends`, which changes the trace, a latch and
chip registers, and nothing of the block. -/

namespace Sys2Proof.Machine

theorem aport_zero : aport cvs 0 = 0x388 := rfl
theorem aport_one : aport cvs 1 = 0x38A := rfl
theorem dport_zero : dport cvs 0 = 0x389 := rfl
theorem dport_one : dport cvs 1 = 0x38B := rfl

/-! ### `sends` -/

variable (s : State) (ws : List RegVal)

@[simp] theorem sends_ctype : (s.sends ws).ctype = s.ctype := rfl
@[simp] theorem sends_allocd : (s.sends ws).allocd = s.allocd := rfl
@[simp] theorem sends_free2 : (s.sends ws).free2 = s.free2 := rfl
@[simp] theorem sends_free4 : (s.sends ws).free4 = s.free4 := rfl
@[simp] theorem sends_percEnabled : (s.sends ws).percEnabled = s.percEnabled := rfl
@[simp] theorem sends_percKey : (s.sends ws).percKey = s.percKey := rfl
@[simp] theorem sends_fourOpMask : (s.sends ws).fourOpMask = s.fourOpMask := rfl
@[simp] theorem sends_chan : (s.sends ws).chan = s.chan := rfl
@[simp] theorem sends_oper : (s.sends ws).oper = s.oper := rfl
@[simp] theorem sends_patch : (s.sends ws).patch = s.patch := rfl
@[simp] theorem sends_slot : (s.sends ws).slot = s.slot := rfl
@[simp] theorem sends_result : (s.sends ws).result = s.result := rfl
@[simp] theorem sends_busy : (s.sends ws).busy = s.busy := rfl
@[simp] theorem sends_cmd : (s.sends ws).cmd = s.cmd := rfl
@[simp] theorem sends_inputs : (s.sends ws).inputs = s.inputs := rfl
@[simp] theorem sends_reads : (s.sends ws).reads = s.reads := rfl
@[simp] theorem sends_draws : (s.sends ws).draws = s.draws := rfl
@[simp] theorem sends_trace : (s.sends ws).trace = s.trace ++ ws.flatMap (fun w => regTx w.1 w.2) := rfl

@[simp] theorem sends_nil : s.sends [] = s := by simp [State.sends]

/-- Two runs of register writes are one. -/
@[simp] theorem sends_sends (vs : List RegVal) : (s.sends ws).sends vs = s.sends (ws ++ vs) := by
  simp [State.sends, List.foldl_append]

/-- A chip register reads as the last byte written to it, and as before if none was (R31, R63). -/
theorem chipReg_sends (r : SetId × Byte) :
    chipReg (s.sends ws) r = (((ws.filter (fun w => w.1 = r)).getLast?).map (·.2)).or (chipReg s r) := by
  induction ws using List.reverseRecOn with
  | nil => simp
  | append_singleton vs w ih =>
    rw [← sends_sends]
    simp only [chipReg] at ih ⊢
    simp only [State.sends, List.foldl_cons, List.foldl_nil, Memory.read_write, chipAddr_eq_iff, List.filter_append]
      at ih ⊢
    by_cases h : w.1 = r
    · simp [h]
    · have h' : ¬ (r.1 = w.1.1 ∧ r.2 = w.1.2) := fun hh => h (Prod.ext hh.1.symm hh.2.symm)
      simp [h, h', ih]

/-! ### The register writes -/

/-- A register write, said once (R63). -/
theorem regWrite_eq (x : SetId) (reg val : Byte) : regWrite cvs x reg val s = s.sends [((x, reg), val)] := by
  match x with
  | 0 => simp [regWrite, busWrite, chipWrite, aport_zero, aport_one, dport_zero, regTx, State.sends]
  | 1 => simp [regWrite, busWrite, chipWrite, aport_zero, aport_one, dport_zero, dport_one, regTx, State.sends]

/-- A register write at a computed address. -/
theorem regWriteAt_eq (r : SetId × Byte) (val : Byte) : regWriteAt cvs r val s = s.sends [(r, val)] :=
  regWrite_eq s r.1 r.2 val

@[simp] theorem w20_eq (n : OperId) : w20 cvs n s = s.sends [(opReg n 0x20, s.oper[n].flagsByte cvs)] := regWriteAt_eq ..
@[simp] theorem w40_eq (n : OperId) : w40 cvs n s = s.sends [(opReg n 0x40, s.oper[n].levelByte cvs)] := regWriteAt_eq ..
@[simp] theorem w60_eq (n : OperId) : w60 cvs n s = s.sends [(opReg n 0x60, s.oper[n].attackDecayByte cvs)] := regWriteAt_eq ..
@[simp] theorem w80_eq (n : OperId) : w80 cvs n s = s.sends [(opReg n 0x80, s.oper[n].sustainReleaseByte cvs)] := regWriteAt_eq ..
@[simp] theorem wE0_eq (n : OperId) : wE0 cvs n s = s.sends [(opReg n 0xE0, s.oper[n].waveByte cvs)] := regWriteAt_eq ..
@[simp] theorem wA0_eq (c : PhysId) : wA0 cvs c s = s.sends [(chReg c 0xA0, s.chan[c].fnumLowByte cvs)] := regWriteAt_eq ..
@[simp] theorem wB0_eq (c : PhysId) : wB0 cvs c s = s.sends [(chReg c 0xB0, s.chan[c].keyBlockByte cvs)] := regWriteAt_eq ..
@[simp] theorem wC0_eq (c : PhysId) : wC0 cvs c s = s.sends [(chReg c 0xC0, s.chan[c].outputByte cvs)] := regWriteAt_eq ..
@[simp] theorem wBD_eq : wBD cvs s = s.sends [((0, 0xBD), percussionByte cvs s.percEnabled s.percKey)] := regWriteAt_eq ..
@[simp] theorem w104_eq : w104 cvs s = s.sends [((1, 0x04), fourOpByte cvs s.fourOpMask)] := regWriteAt_eq ..

/-- The two writes before and after DETECT's reads (R262). -/
theorem resetTimers_eq : resetTimers cvs s = s.sends [((0, 0x04), 0x60), ((0, 0x04), 0x80)] := by
  simp only [resetTimers, regWriteAt_eq, sends_sends]
  rfl

end Sys2Proof.Machine
end

