-- ==== Sys2Proof/Laws/Bytes.lean ====
section
/-! SUPPORT. The values of the configuration tables where the rules' own formulas say them: the register bytes under the
default bit positions, the timer and status bytes of DETECT, the operator map, the carriers, the controller map. -/

namespace Sys2Proof.Machine

/-! ### Register bytes (R96 to R104) -/

theorem flagsByte_eq (o : Oper) : o.flagsByte cvs = o.trem ++ o.vib ++ o.sus ++ o.ksr ++ o.mult := by
  have h : ∀ (a b c d : BitVec 1) (m : BitVec 4), atBit a 7 ||| atBit b 6 ||| atBit c 5 ||| atBit d 4 ||| atBit m 0
      = a ++ b ++ c ++ d ++ m := by decide
  exact h ..

theorem levelByte_eq (o : Oper) : o.levelByte cvs = o.ksl ++ o.tl := by
  have h : ∀ (a : BitVec 2) (b : BitVec 6), atBit a 6 ||| atBit b 0 = a ++ b := by decide
  exact h ..

theorem nibbles (a b : BitVec 4) : atBit a 4 ||| atBit b 0 = a ++ b := by
  revert a b
  decide

theorem attackDecayByte_eq (o : Oper) : o.attackDecayByte cvs = o.ar ++ o.dr := nibbles ..
theorem sustainReleaseByte_eq (o : Oper) : o.sustainReleaseByte cvs = o.sl ++ o.rr := nibbles ..

theorem waveByte_eq (o : Oper) : o.waveByte cvs = (0 : BitVec 5) ++ o.ws := by
  have h : ∀ a : BitVec 3, atBit a 0 = (0 : BitVec 5) ++ a := by decide
  exact h _

theorem fnumLowByte_eq (x : Chan) : x.fnumLowByte cvs = x.fnum.extractLsb' 0 8 := by
  simp [Chan.fnumLowByte, atBit, cvs, regMap, bitMap]

theorem keyBlockByte_eq (x : Chan) :
    x.keyBlockByte cvs = (0 : BitVec 2) ++ x.keyOn ++ x.block ++ (x.fnum.extractLsb' 8 2 : BitVec 2) := by
  have h : ∀ (a : BitVec 1) (b : BitVec 3) (c : BitVec 2),
      atBit a 5 ||| atBit b 2 ||| atBit c 0 = (0 : BitVec 2) ++ a ++ b ++ c := by decide
  exact h ..

theorem outputByte_eq (x : Chan) : x.outputByte cvs = x.out ++ x.fb ++ x.cnt := by
  have h : ∀ (a : BitVec 4) (b : BitVec 3) (c : BitVec 1), atBit a 4 ||| atBit b 1 ||| atBit c 0 = a ++ b ++ c := by decide
  exact h ..

theorem percussionByte_eq (e : Bool) (key : Vector Bool 5) :
    percussionByte cvs e key = (0 : BitVec 2) ++ BitVec.ofBool e ++ BitVec.ofBool key[0] ++ BitVec.ofBool key[1]
      ++ BitVec.ofBool key[2] ++ BitVec.ofBool key[3] ++ BitVec.ofBool key[4] := by
  have h : ∀ a b c d e f : BitVec 1,
      atBit a 5 ||| atBit b 4 ||| atBit c 3 ||| atBit d 2 ||| atBit e 1 ||| atBit f 0
        = (0 : BitVec 2) ++ a ++ b ++ c ++ d ++ e ++ f := by decide
  exact h ..

theorem fourOpByte_eq (mask : BitVec 6) : fourOpByte cvs mask = (0 : BitVec 2) ++ mask := by
  have h : ∀ a : BitVec 6, atBit a 0 = (0 : BitVec 2) ++ a := by decide
  exact h _

/-! ### DETECT (R104, R262) -/

theorem timersMasked_eq : timersMasked cvs = 0x60 := by decide
theorem timerFlagsReset_eq : timerFlagsReset cvs = 0x80 := by decide
theorem timer1Started_eq : timer1Started cvs = 0x21 := by decide
theorem statusFlags_eq : statusFlags cvs = 0xE0 := by decide
theorem statusExpired_eq : statusExpired cvs = 0xC0 := by decide

/-! ### The operator map and the carriers (R92, R148) -/

/-- The table of `physOps` is the formula of R92. -/
theorem physOps_formula (c : PhysId) :
    (physOps cvs c).map (·.val) = [18 * (c.val / 9) + 6 * (c.val % 9 / 3) + c.val % 9 % 3,
      18 * (c.val / 9) + 6 * (c.val % 9 / 3) + c.val % 9 % 3 + 3] := by
  revert c
  decide

/-! ### The controller map (R88) -/

/-- The operator-field groups are the numbers 12 to 63, `{f + 3, i}` for field number `f` and operator index `i`, and the
rest of the map is nine single numbers. -/
theorem controllerOf_eq (b : Byte) :
    controllerOf cvs b =
      if 12 ≤ b.toNat ∧ b.toNat < 64 then
        ([.opAttack, .opDecay, .opSustain, .opRelease, .opWaveform, .opLevel, .opKsl, .opMult, .opTremolo, .opVibrato,
          .opSusflag, .opEnvscale, .opVelsens] : List Controller)[b.toNat / 4 - 3]?
      else if b = 3 then some .program else if b = 7 then some .volume else if b = 8 then some .algorithm
      else if b = 9 then some .feedback else if b = 10 then some .output else if b = 11 then some .lfoDelay
      else if b = 64 then some .sustainPedal else if b = 120 then some .allSoundOff
      else if b = 123 then some .allNotesOff else none := by
  revert b
  decide

/-- A number of an operator-field group carries its operator index in its two low bits (R88). -/
theorem controllerOf_group (n : Controller)
    (h : n ∈ ([.opAttack, .opDecay, .opSustain, .opRelease, .opWaveform, .opLevel, .opKsl, .opMult, .opTremolo, .opVibrato,
      .opSusflag, .opEnvscale, .opVelsens] : List Controller)) (i : BitVec 2) :
    controllerOf cvs (controllerNumber cvs n + i.setWidth 8) = some n
      ∧ (controllerNumber cvs n + i.setWidth 8 : Byte).extractLsb' 0 2 = i := by
  revert i h n
  decide

/-- The other functions stand at their own number. -/
theorem controllerOf_single (n : Controller)
    (h : n ∈ ([.program, .volume, .algorithm, .feedback, .output, .lfoDelay, .sustainPedal, .allSoundOff, .allNotesOff]
      : List Controller)) : controllerOf cvs (controllerNumber cvs n) = some n := by
  revert n
  decide

end Sys2Proof.Machine
end

