-- ==== Sys2Proof/Laws/Ops.lean ====
section
/-! SUPPORT. One lemma per shared operation: what it does, as updates of the block followed by `State.sends`. -/

namespace Sys2Proof.Machine

/-! ### Handles -/

theorem physOrRole_phys (c : PhysId) : physOrRole (physHandle c) = .inl c := by
  have := c.isLt
  simp [physOrRole, physHandle]

theorem physOrRole_role (r : RoleId) : physOrRole (roleHandle r) = .inr r := by simp [physOrRole, roleHandle]

/-- Every handle is a physical channel's or a role's (R13). -/
theorem handle_cases (h : Handle) : (∃ c, h = physHandle c) ∨ (∃ r, h = roleHandle r) := by
  by_cases hh : h.val < 18
  · exact .inl ⟨⟨h.val, hh⟩, rfl⟩
  · refine .inr ⟨⟨h.val - 18, by omega⟩, Fin.ext ?_⟩
    simp only [roleHandle]
    omega

theorem physHandle_inj {c d : PhysId} : physHandle c = physHandle d ↔ c = d := by simp [physHandle, Fin.ext_iff]

theorem physHandle_ne_roleHandle (c : PhysId) (r : RoleId) : physHandle c ≠ roleHandle r := by
  have := c.isLt
  simp only [physHandle, roleHandle, ne_eq, Fin.mk.injEq]
  omega

theorem handleOf_eq (h : Handle) : handleOf h.val = some h := by simp [handleOf]

theorem handleOf_eq_some {n : Nat} {h : Handle} : handleOf n = some h ↔ n = h.val := by
  constructor
  · intro e
    simp only [handleOf] at e
    split at e
    · cases e; rfl
    · cases e
  · rintro rfl
    exact handleOf_eq h

theorem handleOf_eq_none {n : Nat} : handleOf n = none ↔ 23 ≤ n := by
  simp only [handleOf]
  split
  · simp; omega
  · simp; omega

theorem physChan_phys (c : PhysId) : physChan cvs (physHandle c) = c := by simp [physChan, physOrRole_phys]

theorem physChan_role (r : RoleId) : physChan cvs (roleHandle r) = cvs.roleChan[r] := by simp [physChan, physOrRole_role]

theorem ctypeOf_phys (s : State) (c : PhysId) : ctypeOf s (physHandle c) = s.ctype[c].toChType := by
  simp [ctypeOf, physOrRole_phys]

theorem ctypeOf_role (s : State) (r : RoleId) : ctypeOf s (roleHandle r) = roleType r := by
  simp [ctypeOf, physOrRole_role]

theorem opsOf_phys (s : State) (c : PhysId) :
    opsOf cvs s (physHandle c) = match s.ctype[c] with
      | .null => []
      | .twoOp => physOps cvs c
      | .fourOp => physOps cvs c ++ physOps cvs (secondary c) := by
  rw [opsOf, physOrRole_phys] <;> rfl

theorem opsOf_role (s : State) (r : RoleId) : opsOf cvs s (roleHandle r) = cvs.roleOps[r] := by
  simp [opsOf, physOrRole_role]

/-- Types and operators of a handle depend on the channel types only. -/
theorem ctypeOf_congr {s t : State} (h : t.ctype = s.ctype) (g : Handle) : ctypeOf t g = ctypeOf s g := by
  simp [ctypeOf, h]

theorem opsOf_congr {s t : State} (h : t.ctype = s.ctype) (g : Handle) : opsOf cvs t g = opsOf cvs s g := by
  simp [opsOf, h]

theorem opIndices_congr {s t : State} (h : t.ctype = s.ctype) (g : Handle) : opIndices cvs t g = opIndices cvs s g := by
  rw [opIndices, opIndices, opCount, opCount, opsOf_congr h]

/-! ### `sends` commutes with every update of the block -/

variable (s : State) (ws : List RegVal)

@[simp] theorem sends_updChan (c : PhysId) (f : Chan → Chan) : (s.sends ws).updChan c f = (s.updChan c f).sends ws := rfl
@[simp] theorem sends_updOper (n : OperId) (f : Oper → Oper) : (s.sends ws).updOper n f = (s.updOper n f).sends ws := rfl
@[simp] theorem sends_updPatch (m : MidiId) (f : Patch → Patch) : (s.sends ws).updPatch m f = (s.updPatch m f).sends ws := rfl
@[simp] theorem sends_updSlot (k : SlotId) (f : Slot → Slot) : (s.sends ws).updSlot k f = (s.updSlot k f).sends ws := rfl
@[simp] theorem sends_setAllocd (h : Handle) (b : Bool) : (s.sends ws).setAllocd h b = (s.setAllocd h b).sends ws := rfl
@[simp] theorem sends_setFree2 (c : PhysId) (b : Bool) : (s.sends ws).setFree2 c b = (s.setFree2 c b).sends ws := rfl
@[simp] theorem sends_setFree4 (c : PhysId) (b : Bool) : (s.sends ws).setFree4 c b = (s.setFree4 c b).sends ws := rfl

/-! ### Key and frequency -/

/-- The key bit of a physical channel (R130, R131). -/
theorem writeKey_phys (on : Bool) (c : PhysId) :
    writeKey cvs on (physHandle c) s = (s.updChan c (fun x => { x with keyOn := BitVec.ofBool on })).sends
      [(chReg c 0xB0, Chan.keyBlockByte cvs { s.chan[c] with keyOn := BitVec.ofBool on })] := by
  simp [writeKey, physOrRole_phys]

/-- The key bit of a percussion role (R130, R131). -/
theorem writeKey_role (on : Bool) (r : RoleId) :
    writeKey cvs on (roleHandle r) s = { s with percKey := s.percKey.set r on }.sends
      [((0, 0xBD), percussionByte cvs s.percEnabled (s.percKey.set r on))] := by
  simp [writeKey, physOrRole_role]

/-- The cached fields and the two register writes of a new frequency (R129). -/
theorem writeFreq_eq (c : PhysId) (freq : Nat) :
    writeFreq cvs c freq s =
      (s.updChan c (fun x =>
        { x with fnum := BitVec.ofNat 10 (freqNumber cvs freq), block := BitVec.ofNat 3 (freqBlock cvs freq) })).sends
      [(chReg c 0xA0, Chan.fnumLowByte cvs { s.chan[c] with
          fnum := BitVec.ofNat 10 (freqNumber cvs freq), block := BitVec.ofNat 3 (freqBlock cvs freq) }),
       (chReg c 0xB0, Chan.keyBlockByte cvs { s.chan[c] with
          fnum := BitVec.ofNat 10 (freqNumber cvs freq), block := BitVec.ofNat 3 (freqBlock cvs freq) })] := by
  simp [writeFreq]

/-- A key procedure succeeds exactly on a held handle (R121, R130). -/
theorem setKey_ok_iff {cfg : Config.Params} {on : Bool} {h : Handle} {s t : State} :
    setKey cfg on h s = .ok t ↔ s.allocd[h] = true ∧ t = writeKey cfg on h s := by
  rw [setKey]
  split
  · rw [Except.ok.injEq, eq_comm]
    exact ⟨fun e => ⟨by assumption, e⟩, fun e => e.2⟩
  · exact ⟨fun e => (by cases e), fun e => absurd e.1 (by assumption)⟩

theorem setFreq_ok_iff {cfg : Config.Params} {h : Handle} {freq : Nat} {s t : State} :
    setFreq cfg h freq s = .ok t ↔ s.allocd[h] = true ∧ t = writeFreq cfg (physChan cfg h) freq s := by
  rw [setFreq]
  split
  · rw [Except.ok.injEq, eq_comm]
    exact ⟨fun e => ⟨by assumption, e⟩, fun e => e.2⟩
  · exact ⟨fun e => (by cases e), fun e => absurd e.1 (by assumption)⟩

/-! ### Operator fields -/

/-- The register base that holds an operator field (R133 to R144). -/
def OpField.base : OpField → Byte
  | .ar | .dr => 0x60
  | .sl | .rr => 0x80
  | .ws => 0xE0
  | .tl | .ksl => 0x40
  | .mult | .trem | .vib | .sus | .ksr => 0x20

/-- The byte of the register that holds an operator field (R96 to R100). -/
def OpField.byte (f : OpField) (o : Oper) : Byte :=
  match f with
  | .ar | .dr => o.attackDecayByte cvs
  | .sl | .rr => o.sustainReleaseByte cvs
  | .ws => o.waveByte cvs
  | .tl | .ksl => o.levelByte cvs
  | .mult | .trem | .vib | .sus | .ksr => o.flagsByte cvs

/-- The one register write of an operator field (R132). -/
theorem OpField.write_eq (f : OpField) (n : OperId) : f.write cvs n s = s.sends [(opReg n f.base, f.byte s.oper[n])] := by
  cases f <;> simp [OpField.write, OpField.base, OpField.byte]

/-- When an operator setter is carried out, and what it does (R132). -/
theorem setOp_ok_iff {f : OpField} {h : Handle} {i v : Nat} {s t : State} :
    setOp cvs f h i v s = .ok t ↔ s.allocd[h] = true ∧ v < 2 ^ f.width ∧ ∃ n, (opsOf cvs s h)[i]? = some n ∧
      t = (s.updOper n (f.put v)).sends [(opReg n f.base, f.byte (f.put v s.oper[n]))] := by
  have hw (n : OperId) : f.write cvs n (s.updOper n (f.put v)) =
      (s.updOper n (f.put v)).sends [(opReg n f.base, f.byte (f.put v s.oper[n]))] := by
    simp [OpField.write_eq]
  rw [setOp]
  split
  · rename_i ha
    cases hn : (opsOf cvs s h)[i]? with
    | none => simp
    | some n =>
      by_cases hv : v < 2 ^ f.width
      · simp only [hv, if_true, Except.ok.injEq, hw, ha, true_and, Option.some.injEq, exists_eq_left', eq_comm]
      · simp [hv]
  · rename_i ha
    simp [ha]

/-! ### Procedures inside a voice-manager command -/

/-- A refused procedure call is skipped (R200, R311). -/
theorem attempt_cases {p : State → Except Code State} (s : State) : p s = .ok (attempt p s) ∨ attempt p s = s := by
  simp only [attempt]
  cases p s <;> simp

/-- One more visit: what `visitVoices` does with the first of the slots still to come (R170). -/
theorem visit_induct {P : State → Prop} {sel : Slot → Bool} {body : SlotId → Handle → State → State × Nat}
    (hb : ∀ k h t, P t → t.slot[k].lchan = some h → sel t.slot[k] = true → P (body k h t).1) {s : State} (hs : P s) :
    P (visitVoices sel body s).1 := by
  simp only [visitVoices]
  generalize allSlots = l
  have : ∀ (l : List SlotId) (acc : State × Nat), P acc.1 → P (l.foldl (fun acc k =>
      match acc.1.slot[k].lchan with
      | none => acc
      | some h => if sel acc.1.slot[k] then ((body k h acc.1).1, acc.2 + (body k h acc.1).2) else acc) acc).1 := by
    intro l
    induction l with
    | nil => intro acc h; exact h
    | cons k l ih =>
      intro acc h
      simp only [List.foldl_cons]
      apply ih
      split
      · exact h
      · split
        · exact hb _ _ _ h (by assumption) (by assumption)
        · exact h
  exact this l (s, 0) hs

/-- What holds through every operator index of a handle. -/
theorem forOp_induct {cfg : Config.Params} {P : State → Prop} {h : Handle} {body : Fin 4 → State → State}
    (hb : ∀ i t, P t → P (body i t)) {s : State} (hs : P s) : P (forOpIndices cfg h body s) := by
  simp only [forOpIndices]
  generalize opIndices cfg s h = l
  induction l generalizing s with
  | nil => exact hs
  | cons i l ih => exact ih (hb i s hs)

/-- Two channels that a setter of a FourOp channel writes are two (R21). -/
theorem secondary_ne (c : PhysId) : (secondary c).val ≠ c.val := by
  simp only [secondary, Fin.val_add]
  have := c.isLt
  simp only [Fin.isValue, Fin.coe_ofNat_eq_mod, Nat.reduceMod]
  omega

/-- A bus write may be made before or after a change of the channel cache, whatever the parameters. -/
theorem busWrite_updChan (cfg : Config.Params) (a : BitVec 16) (b : Byte) (s : State) (c : PhysId) (f : Chan → Chan) :
    busWrite cfg a b (s.updChan c f) = (busWrite cfg a b s).updChan c f := by
  simp only [busWrite, chipWrite, State.updChan]
  split_ifs <;> rfl

/-- The 0xC0-base write of one channel may be made before or after a change of another channel's cache. -/
theorem wC0_updChan (cfg : Config.Params) {c d : PhysId} (h : d.val ≠ c.val) (f : Chan → Chan) (s : State) :
    wC0 cfg c (s.updChan d f) = (wC0 cfg c s).updChan d f := by
  simp only [wC0, regWriteAt, regWrite, busWrite_updChan]
  simp [State.updChan, h]

/-- Programming a FourOp voice's two halves, one after the other (R173). -/
theorem programChannel_fourOp {cfg : Config.Params} {h : Handle} {P : Patch} {s : State} (hc : ctypeOf s h = .fourOp) :
    programChannel cfg h P s =
      wC0 cfg (secondary (physChan cfg h)) ((wC0 cfg (physChan cfg h) (s.updChan (physChan cfg h) (fun x =>
        { x with out := P.out, fb := P.fb, cnt := P.algorithm.extractLsb' 1 1 }))).updChan (secondary (physChan cfg h))
          (fun x => { x with out := P.out, cnt := P.algorithm.extractLsb' 0 1 })) := by
  simp only [programChannel, hc]
  rw [wC0_updChan cfg (secondary_ne _)]

/-! ### Channel setters and FREE -/

/-- `connect` on one channel. -/
theorem connect_one (c : PhysId) (f : Chan → Chan) : wC0 cvs c (s.updChan c f) = s.connect [c] f := by
  simp [State.connect, State.updChan]

/-- `connect` on a channel, then on its secondary. -/
theorem connect_two (c : PhysId) (f : Chan → Chan) :
    (s.connect [c] f).connect [secondary c] f = s.connect [c, secondary c] f := by
  have h := secondary_ne c
  have e : (s.chan.set c (f s.chan[c]))[secondary c] = s.chan[secondary c] := by simp [h.symm]
  simp only [State.connect, List.foldl_cons, List.foldl_nil, List.map_cons, List.map_nil, sends_chan, e]
  simp [State.sends]

/-- When SetOutput is carried out, and what it does (R145). -/
theorem setOutput_ok_iff {h : Handle} {v : Nat} {s t : State} :
    setOutput cvs h v s = .ok t ↔ s.allocd[h] = true ∧ v < 16 ∧
      t = s.connect (if ctypeOf s h = .fourOp then [physChan cvs h, secondary (physChan cvs h)] else [physChan cvs h])
        (fun x => { x with out := BitVec.ofNat 4 v }) := by
  by_cases ha : s.allocd[h] = true
  · by_cases hv : v < 16
    · by_cases hc : ctypeOf s h = .fourOp <;>
        simp only [setOutput, ha, hv, hc, if_true, if_false, true_and, Except.ok.injEq, connect_one, connect_two] <;>
        exact eq_comm
    · simp [setOutput, ha, hv]
  · simp [setOutput, ha]

/-- When SetFeedback is carried out, and what it does (R146). -/
theorem setFeedback_ok_iff {h : Handle} {v : Nat} {s t : State} :
    setFeedback cvs h v s = .ok t ↔ s.allocd[h] = true ∧ (ctypeOf s h).singleOp = false ∧ v < 8 ∧
      t = s.connect [physChan cvs h] (fun x => { x with fb := BitVec.ofNat 3 v }) := by
  by_cases ha : s.allocd[h] = true
  · by_cases hc : ((ctypeOf s h).singleOp || decide (8 ≤ v)) = true
    · simp only [setFeedback, ha, hc, if_true]
      simp only [Bool.or_eq_true, decide_eq_true_eq] at hc
      constructor
      · intro e; cases e
      · rintro ⟨-, h1, h2, -⟩
        rcases hc with hc | hc
        · rw [h1] at hc; cases hc
        · omega
    · simp only [setFeedback, ha, hc, if_true, true_and, connect_one]
      simp only [Bool.or_eq_true, decide_eq_true_eq, not_or, Bool.not_eq_true, Nat.not_le] at hc
      simp [hc.1, hc.2, eq_comm]
  · simp [setFeedback, ha]

/-- What SetAlgorithm does when it is carried out (R147). -/
theorem setAlgorithm_ok {h : Handle} {v : Nat} {s t : State} (e : setAlgorithm cvs h v s = .ok t) :
    s.allocd[h] = true ∧
      (((ctypeOf s h = .twoOp ∨ ctypeOf s h = .kick) ∧ v < 2
          ∧ t = s.connect [physChan cvs h] (fun x => { x with cnt := BitVec.ofNat 1 v }))
        ∨ (ctypeOf s h = .fourOp ∧ v < 4
          ∧ t = (s.connect [physChan cvs h] (fun x => { x with cnt := BitVec.ofNat 1 (v / 2) })).connect
              [secondary (physChan cvs h)] (fun x => { x with cnt := BitVec.ofNat 1 v }))) := by
  by_cases ha : s.allocd[h] = true
  · refine ⟨ha, ?_⟩
    simp only [setAlgorithm, ha, if_true, connect_one] at e
    cases hc : ctypeOf s h <;> simp only [hc, reduceCtorEq] at e
    all_goals (split at e <;> cases e; rename_i hv; simp [hv])
  · simp [setAlgorithm, ha] at e

/-- When FREE is carried out, and what it does (R126). -/
theorem freeHandle_ok_iff {h : Handle} {s t : State} :
    freeHandle h s = .ok t ↔ s.allocd[h] = true ∧ t = s.freed h := by
  have e : toPool h (s.setAllocd h false) = s.freed h := by
    rcases handle_cases h with ⟨c, rfl⟩ | ⟨r, rfl⟩
    · cases hc : s.ctype[c] <;> simp only [toPool, State.freed, physOrRole_phys, State.setAllocd, hc] <;>
        simp [State.setFree2, State.setFree4]
    · simp [toPool, State.freed, physOrRole_role, State.setAllocd]
  by_cases ha : s.allocd[h] = true
  · simp only [freeHandle, ha, if_true, true_and, Except.ok.injEq, e]
    exact eq_comm
  · simp [freeHandle, ha]

/-! ### Allocation -/

/-- A TwoOp channel is obtained from the pool, or by the split of a free pair (R123). -/
theorem allocTwoOp_ok {s t : State} {h : Handle} (e : allocTwoOp cvs s = .ok (h, t)) :
    (∃ c, s.free2[c] = true ∧ h = physHandle c ∧ t = (s.setFree2 c false).setAllocd (physHandle c) true)
    ∨ (∃ j : PairId, s.free4[cvs.pairs[j].1] = true ∧ (∀ c : PhysId, c ∈ cvs.prio2 → s.free2[c] = false)
        ∧ h = physHandle cvs.pairs[j].1
        ∧ t = ((w104 cvs { s.setFree4 cvs.pairs[j].1 false with
            ctype := (s.ctype.set cvs.pairs[j].1 .twoOp).set cvs.pairs[j].2 .twoOp
            fourOpMask := maskClear s.fourOpMask j }).setAllocd (physHandle cvs.pairs[j].1) true).setFree2
              cvs.pairs[j].2 true) := by
  simp only [allocTwoOp] at e
  split at e
  · rename_i c hc
    cases e
    exact .inl ⟨c, by simpa using List.find?_some hc, rfl, rfl⟩
  · rename_i hn
    split at e
    · rename_i j hj
      cases e
      exact .inr ⟨j, by simpa using List.find?_some hj, by simpa using hn, rfl, rfl⟩
    · cases e

/-- A FourOp channel is obtained from the pool, or by the merge of a pair with two free halves (R124). -/
theorem allocFourOp_ok {s t : State} {h : Handle} (e : allocFourOp cvs s = .ok (h, t)) :
    (∃ c, s.free4[c] = true ∧ h = physHandle c ∧ t = (s.setFree4 c false).setAllocd (physHandle c) true)
    ∨ (∃ j : PairId, s.free2[cvs.pairs[j].1] = true ∧ s.free2[cvs.pairs[j].2] = true
        ∧ (∀ c : PhysId, c ∈ cvs.prio4 → s.free4[c] = false) ∧ h = physHandle cvs.pairs[j].1
        ∧ t = (w104 cvs { (s.setFree2 cvs.pairs[j].1 false).setFree2 cvs.pairs[j].2 false with
            ctype := (s.ctype.set cvs.pairs[j].1 .fourOp).set cvs.pairs[j].2 .null
            fourOpMask := maskSet s.fourOpMask j }).setAllocd (physHandle cvs.pairs[j].1) true) := by
  simp only [allocFourOp] at e
  split at e
  · rename_i c hc
    cases e
    exact .inl ⟨c, by simpa using List.find?_some hc, rfl, rfl⟩
  · rename_i hn
    split at e
    · rename_i j hj
      cases e
      have hb := List.find?_some hj
      simp only [Bool.and_eq_true] at hb
      exact .inr ⟨j, hb.1, hb.2, by simpa using hn, rfl, rfl⟩
    · cases e

/-- A percussion role is obtained while percussion mode is on and the role is not held (R125). -/
theorem allocRole_ok_iff {r : RoleId} {s t : State} {h : Handle} :
    allocRole r s = .ok (h, t) ↔
      s.percEnabled = true ∧ s.allocd[roleHandle r] = false ∧ h = roleHandle r ∧ t = s.setAllocd (roleHandle r) true := by
  cases hp : s.percEnabled <;> cases ha : s.allocd[roleHandle r] <;> simp [allocRole, hp, ha, eq_comm]

/-! ### Programming an operator -/

/-- The five register writes that program an operator (R174). -/
theorem programOperator_eq {k : SlotId} {h : Handle} {i : Fin 4} {s : State} {n : OperId} (hn : (opsOf cvs s h)[i.val]? = some n) :
    programOperator cvs k h i s =
      (s.updOper n (fun _ => operOfTemplate s.patch[s.slot[k].midiCh].op[i] (atten cvs s k h i))).sends
        (operWrites n (operOfTemplate s.patch[s.slot[k].midiCh].op[i] (atten cvs s k h i))) := by
  simp [programOperator, hn, operWrites, State.updOper]

/-! ### The forced silence -/

/-- A procedure that is carried out. -/
theorem attempt_ok {p : State → Except Code State} {s t : State} (h : p s = .ok t) : attempt p s = t := by
  simp [attempt, h]

/-- A procedure that is refused. -/
theorem attempt_error {p : State → Except Code State} {s : State} {c : Code} (h : p s = .error c) : attempt p s = s := by
  simp [attempt, h]

/-- The writes of a forced silence read only the key-scale level and the sustain level of the cache (R176). -/
theorem silenceWrites_congr {s t : State} (hk : ∀ n : OperId, t.oper[n].ksl = s.oper[n].ksl ∧ t.oper[n].sl = s.oper[n].sl)
    (ns : List OperId) : silenceWrites t ns = silenceWrites s ns := by
  simp only [silenceWrites, Oper.levelByte, Oper.sustainReleaseByte, hk]

/-- Attenuation 63, then release 15, of one operator of a held handle (R176). -/
theorem silence_one {s : State} {h : Handle} {i : Nat} {n : OperId} (ha : s.allocd[h] = true)
    (hn : (opsOf cvs s h)[i]? = some n) :
    attempt (setOp cvs .rr h i 15) (attempt (setOp cvs .tl h i 63) s) =
      { s with oper := s.oper.set n { s.oper[n] with tl := 63, rr := 15 } }.sends (silenceWrites s [n]) := by
  have h1 : setOp cvs .tl h i 63 s = .ok ((s.updOper n (OpField.put .tl 63)).sends
      [(opReg n 0x40, OpField.byte .tl (OpField.put .tl 63 s.oper[n]))]) :=
    setOp_ok_iff.2 ⟨ha, by decide, n, hn, rfl⟩
  rw [attempt_ok h1]
  refine attempt_ok (setOp_ok_iff.2 ⟨ha, by decide, n, hn, ?_⟩)
  rw [sends_updOper, sends_sends]
  simp [State.updOper, OpField.put, OpField.byte, OpField.base, silenceWrites, Oper.levelByte, Oper.sustainReleaseByte]

/-- The same of the operators at the indices `l`, in order (R176). -/
theorem silence_fold {h : Handle} (l : List (Fin 4)) : ∀ {s : State}, s.allocd[h] = true →
    (∀ i ∈ l, i.val < opCount cvs s h) →
    l.foldl (fun (t : State) (i : Fin 4) => attempt (setOp cvs .rr h i.val 15) (attempt (setOp cvs .tl h i.val 63) t)) s =
      { s with
        oper := (l.filterMap (fun i : Fin 4 => (opsOf cvs s h)[i.val]?)).foldl
          (fun (o : Vector Oper 36) (n : OperId) => o.set n { o[n] with tl := 63, rr := 15 }) s.oper }.sends
        (silenceWrites s (l.filterMap (fun i : Fin 4 => (opsOf cvs s h)[i.val]?))) := by
  induction l with
  | nil => intro s _ _; simp [silenceWrites]
  | cons i l ih =>
    intro s ha hl
    obtain ⟨n, hn⟩ : ∃ n, (opsOf cvs s h)[i.val]? = some n :=
      ⟨_, List.getElem?_eq_getElem (hl i (List.mem_cons_self ..))⟩
    have hu := silence_one ha hn
    rw [List.foldl_cons]
    generalize attempt (setOp cvs .rr h i.val 15) (attempt (setOp cvs .tl h i.val 63) s) = u at hu ⊢
    have hc : u.ctype = s.ctype := by rw [hu]; rfl
    have hk (m : OperId) : u.oper[m].ksl = s.oper[m].ksl ∧ u.oper[m].sl = s.oper[m].sl := by
      by_cases hm : n = m
      · subst hm; simp [hu]
      · have : n.val ≠ m.val := fun e => hm (Fin.ext e)
        simp [hu, this]
    rw [ih (by rw [hu]; exact ha) (fun j hj => by
      rw [opCount, opsOf_congr hc]
      exact hl j (List.mem_cons_of_mem _ hj)), silenceWrites_congr hk, opsOf_congr hc]
    simp only [List.filterMap_cons, hn, List.foldl_cons, hu, sends_oper]
    simp only [State.sends, silenceWrites, List.flatMap_cons, List.flatMap_nil, List.foldl_append, List.flatMap_append,
      List.append_assoc, List.append_nil]

/-- The operators at all operator indices of a handle are the handle's operators, in order (R92). -/
theorem opIndices_ops (s : State) (h : Handle) :
    (opIndices cvs s h).filterMap (fun i : Fin 4 => (opsOf cvs s h)[i.val]?) = opsOf cvs s h := by
  have h4 : opsOf cvs s h = [] ∨ (∃ a, opsOf cvs s h = [a]) ∨ (∃ a b, opsOf cvs s h = [a, b])
      ∨ ∃ a b c d, opsOf cvs s h = [a, b, c, d] := by
    rcases handle_cases h with ⟨c, rfl⟩ | ⟨r, rfl⟩
    · rw [opsOf_phys]
      cases s.ctype[c] <;> simp [physOps]
    · rw [opsOf_role]
      fin_cases r <;> simp [cvs]
  simp only [opIndices, opCount, allOpIndices]
  rcases h4 with e | ⟨a, e⟩ | ⟨a, b, e⟩ | ⟨a, b, c, d, e⟩ <;> simp [e]

/-- The forced silence of a voice, said once (R176, R311). -/
theorem forceSilence_eq (k : SlotId) (h : Handle) (s : State) : forceSilence cvs k h s = s.silenced k h := by
  by_cases ha : s.allocd[h] = true
  · have h1 : attempt (setKey cvs false h) s = writeKey cvs false h s := attempt_ok (setKey_ok_iff.2 ⟨ha, rfl⟩)
    have hc : (writeKey cvs false h s).ctype = s.ctype
        ∧ (writeKey cvs false h s).allocd = s.allocd ∧ (writeKey cvs false h s).oper = s.oper := by
      rcases handle_cases h with ⟨c, rfl⟩ | ⟨r, rfl⟩
      · rw [writeKey_phys]; simp [State.updChan]
      · rw [writeKey_role]; simp
    have h2 := silence_fold (h := h) (opIndices cvs s h) (s := writeKey cvs false h s) (by rw [hc.2.1]; exact ha) (fun i hi => by
      rw [opCount, opsOf_congr hc.1]
      exact of_decide_eq_true (List.mem_filter.1 hi).2)
    rw [opsOf_congr hc.1, opIndices_ops, hc.2.2, silenceWrites_congr (s := s) (fun n => by rw [hc.2.2]; exact ⟨rfl, rfl⟩)] at h2
    rw [forceSilence]
    simp only [h1, forOpIndices, opIndices_congr hc.1, h2]
    rw [attempt_ok (setFreq_ok_iff.2 ⟨by simpa [hc.2.1] using ha, rfl⟩)]
    rw [attempt_ok (freeHandle_ok_iff.2 ⟨by simpa [writeFreq, State.updChan, hc.2.1] using ha, rfl⟩)]
    have hz : freqNumber cvs 0 = 0 ∧ freqBlock cvs 0 = 0 := by decide
    rw [State.silenced, if_pos ha, writeFreq_eq, hz.1, hz.2]
    rcases handle_cases h with ⟨c, rfl⟩ | ⟨r, rfl⟩
    · have hl : (physHandle c).val < 18 := c.isLt
      have hr : ∀ r, physHandle c ≠ roleHandle r := physHandle_ne_roleHandle c
      rw [writeKey_phys]
      simp [State.freed, physOrRole_phys, physChan_phys, unbind, State.updSlot, State.updChan, keyOffWrites, silentChan, hl, hr,
        freqWrites, Chan.keyed]
      simp [State.sends]
    · have hl : ¬ (roleHandle r).val < 18 := by simp [roleHandle]
      rw [writeKey_role]
      simp [State.freed, physOrRole_role, unbind, State.updSlot, State.updChan, keyOffWrites, silentChan, hl,
        freqWrites]
      simp [State.sends]
      ext q hq
      by_cases hqr : r.val = q
      · subst hqr
        simp
      · have hne : roleHandle r ≠ roleHandle ⟨q, hq⟩ := fun e => hqr (by simpa [roleHandle] using e)
        simp [hqr, hne]
  · have hk : attempt (setKey cvs false h) s = s := by simp [attempt, setKey, ha]
    have ho (f : OpField) (i v : Nat) : attempt (setOp cvs f h i v) s = s := by simp [attempt, setOp, ha]
    have hf : ∀ l : List (Fin 4), l.foldl (fun (t : State) (i : Fin 4) =>
        attempt (setOp cvs .rr h i.val 15) (attempt (setOp cvs .tl h i.val 63) t)) s = s := by
      intro l
      induction l with
      | nil => rfl
      | cons i l ih => rw [List.foldl_cons, ho, ho, ih]
    have hq : attempt (setFreq cvs h 0) s = s := by simp [attempt, setFreq, ha]
    have hr : attempt (freeHandle h) s = s := by simp [attempt, freeHandle, ha]
    simp only [forceSilence, forOpIndices, hk, hf, hq, hr, State.silenced, ha, unbind, State.updSlot]
    rfl

end Sys2Proof.Machine
end

