-- ==== Sys2Proof/Laws/Exec.lean ====
section
/-! SUPPORT. What holds through a command: a property that the primitive procedures keep is kept by every command
(`Keeps.execWith`), under every record of parameters. Each primitive is one cached change with its register write, or one
change of the allocator. -/

namespace Sys2Proof.Machine

/-- `P` is kept by the primitive procedures that any command may use. -/
structure Keeps (cfg : Config.Params) (P : State → Prop) : Prop where
  answer : ∀ s c v, P s → P (s.answer c v)
  patch : ∀ s m f, P s → P (s.updPatch m f)
  slot : ∀ s k f, P s → P (s.updSlot k f)
  draw : ∀ s, P s → P { s with draws := s.draws + 1 }
  free : ∀ s h t, P s → freeHandle h s = .ok t → P t
  key : ∀ s on h, P s → P (writeKey cfg on h s)
  freq : ∀ s c f, P s → P (writeFreq cfg c f s)
  field : ∀ s f n v, P s → P (OpField.write cfg f n (s.updOper n (f.put v)))
  lfo : ∀ s n (a b : BitVec 1), P s → P (w20 cfg n (s.updOper n (fun o => { o with trem := a, vib := b })))
  program : ∀ s n o, P s → P (wE0 cfg n (w80 cfg n (w60 cfg n (w40 cfg n (w20 cfg n (s.updOper n (fun _ => o)))))))
  conn : ∀ s c f, (∀ x : Chan, (f x).fnum = x.fnum ∧ (f x).block = x.block ∧ (f x).keyOn = x.keyOn) → P s →
    P (wC0 cfg c (s.updChan c f))

/-- `P` is kept by allocation. -/
def KeepsAlloc (cfg : Config.Params) (P : State → Prop) : Prop := ∀ s t h s', P s → allocate cfg t s = .ok (h, s') → P s'

/-- `P` is kept by the two switches of percussion mode. -/
def KeepsPerc (cfg : Config.Params) (P : State → Prop) : Prop :=
  (∀ s, P s → s.percEnabled = false → s.free2[6] = true → s.free2[7] = true → s.free2[8] = true →
    P (wBD cfg { ((s.setFree2 6 false).setFree2 7 false).setFree2 8 false with percEnabled := true }))
  ∧ (∀ s, P s → s.percEnabled = true → (∀ r : RoleId, s.percKey[r] = false) →
    P (wBD cfg (((State.setFree2 { s with percEnabled := false } 6 true).setFree2 7 true).setFree2 8 true)))

/-- `P` is kept by INIT's work. -/
def KeepsInit (cfg : Config.Params) (P : State → Prop) : Prop := ∀ s, P s → P (initWrites cfg (s.resetBlock cfg))

/-- `P` is kept by the transactions of DETECT. -/
def KeepsProbe (cfg : Config.Params) (P : State → Prop) : Prop :=
  (∀ s r val, r = cfg.regs.timer1 ∨ r = cfg.regs.timerControl → P s → P (regWriteAt cfg r val s))
    ∧ (∀ s, P s → P (busRead (aport cfg 0) s).2)

/-- What a procedure that is carried out answers. -/
theorem ok_eq {x u : State} (h : (Except.ok x : Except Code State) = .ok u) : x = u := Except.ok.inj h

/-- A refused procedure is not carried out. -/
theorem not_ok {c : Code} {u : State} (h : (Except.error c : Except Code State) = .ok u) : False := by cases h

namespace Keeps

variable {cfg : Config.Params} {P : State → Prop} (H : Keeps cfg P)
include H

theorem complete {v : Byte} {s t : State} (hs : P s) (h : Machine.complete v s = .next t) : P t := by
  simp only [Machine.complete, Host.Outcome.next.injEq] at h
  exact h ▸ H.answer _ _ _ hs

theorem refuse {c : Code} {v : Byte} {s t : State} (hs : P s) (h : Machine.refuse c v s = .next t) : P t := by
  simp only [Machine.refuse, Host.Outcome.next.injEq] at h
  exact h ▸ H.answer _ _ _ hs

theorem replyBool {e : Except Code State} {s t : State} (hs : P s) (he : ∀ u, e = .ok u → P u)
    (h : Machine.replyBool s e = .next t) : P t := by
  cases e with
  | ok u => exact H.complete (he u rfl) h
  | error c => exact H.refuse hs h

omit H in
theorem attempt {p : State → Except Code State} {s : State} (hs : P s) (hp : ∀ u, p s = .ok u → P u) :
    P (Machine.attempt p s) := by
  rcases attempt_cases (p := p) s with h | h
  · exact hp _ h
  · rw [h]; exact hs

theorem setKey {on h s t} (hs : P s) (e : Machine.setKey cfg on h s = .ok t) : P t := by
  rw [setKey_ok_iff] at e
  exact e.2 ▸ H.key _ _ _ hs

theorem setFreq {h f s t} (hs : P s) (e : Machine.setFreq cfg h f s = .ok t) : P t := by
  rw [setFreq_ok_iff] at e
  exact e.2 ▸ H.freq _ _ _ hs

theorem setOp {f h i v s t} (hs : P s) (e : Machine.setOp cfg f h i v s = .ok t) : P t := by
  simp only [Machine.setOp] at e
  repeat' split at e
  all_goals first | exact (not_ok e).elim | obtain rfl := ok_eq e
  exact H.field _ _ _ _ hs

theorem setOutput {h v s t} (hs : P s) (e : Machine.setOutput cfg h v s = .ok t) : P t := by
  simp only [Machine.setOutput] at e
  repeat' split at e
  all_goals first | exact (not_ok e).elim | obtain rfl := ok_eq e
  · exact H.conn _ _ _ (fun _ => ⟨rfl, rfl, rfl⟩) (H.conn _ _ _ (fun _ => ⟨rfl, rfl, rfl⟩) hs)
  · exact H.conn _ _ _ (fun _ => ⟨rfl, rfl, rfl⟩) hs

theorem setFeedback {h v s t} (hs : P s) (e : Machine.setFeedback cfg h v s = .ok t) : P t := by
  simp only [Machine.setFeedback] at e
  repeat' split at e
  all_goals first | exact (not_ok e).elim | obtain rfl := ok_eq e
  exact H.conn _ _ _ (fun _ => ⟨rfl, rfl, rfl⟩) hs

theorem setAlgorithm {h v s t} (hs : P s) (e : Machine.setAlgorithm cfg h v s = .ok t) : P t := by
  simp only [Machine.setAlgorithm] at e
  repeat' split at e
  all_goals first | exact (not_ok e).elim | obtain rfl := ok_eq e
  · exact H.conn _ _ _ (fun _ => ⟨rfl, rfl, rfl⟩) hs
  · exact H.conn _ _ _ (fun _ => ⟨rfl, rfl, rfl⟩) hs
  · exact H.conn _ _ _ (fun _ => ⟨rfl, rfl, rfl⟩) (H.conn _ _ _ (fun _ => ⟨rfl, rfl, rfl⟩) hs)

theorem setAtten {k h i s} (hs : P s) : P (Machine.setAtten cfg k h i s) := Keeps.attempt hs fun _ e => H.setOp hs e

theorem programChannel {h p s} (hs : P s) : P (Machine.programChannel cfg h p s) := by
  cases hc : ctypeOf s h with
  | fourOp =>
    rw [programChannel_fourOp hc]
    exact H.conn _ _ _ (fun _ => ⟨rfl, rfl, rfl⟩) (H.conn _ _ _ (fun _ => ⟨rfl, rfl, rfl⟩) hs)
  | null => simpa [Machine.programChannel, hc] using hs
  | _ =>
    simp only [Machine.programChannel, hc]
    exact H.conn _ _ _ (fun _ => ⟨rfl, rfl, rfl⟩) hs

theorem programOperator {k h i s} (hs : P s) : P (Machine.programOperator cfg k h i s) := by
  simp only [Machine.programOperator]
  split
  · exact hs
  · exact H.program _ _ _ hs

theorem forceSilence {k h s} (hs : P s) : P (Machine.forceSilence cfg k h s) := by
  simp only [Machine.forceSilence, unbind]
  apply H.slot
  have h1 : P (Machine.attempt (Machine.setKey cfg false h) s) := Keeps.attempt hs fun _ e => H.setKey hs e
  have h2 : P (forOpIndices cfg h (fun i t => Machine.attempt (Machine.setOp cfg .rr h i 15)
      (Machine.attempt (Machine.setOp cfg .tl h i 63) t)) (Machine.attempt (Machine.setKey cfg false h) s)) := by
    refine forOp_induct (P := P) (fun i t ht => ?_) h1
    have h3 : P (Machine.attempt (Machine.setOp cfg .tl h i 63) t) := Keeps.attempt ht fun _ e => H.setOp ht e
    exact Keeps.attempt h3 fun _ e => H.setOp h3 e
  have h3 := Keeps.attempt (p := Machine.setFreq cfg h 0) h2 fun _ e => H.setFreq h2 e
  exact Keeps.attempt h3 fun _ e => H.free _ _ _ h3 e

theorem releaseVoice {k h s} (hs : P s) : P (Machine.releaseVoice cfg k h s) :=
  H.slot _ _ _ (Keeps.attempt hs fun _ e => H.setKey hs e)

theorem stopVoice {k h s} (hs : P s) : P (Machine.stopVoice cfg k h s) := by
  simp only [Machine.stopVoice]
  split
  · exact H.slot _ _ _ hs
  · exact H.releaseVoice hs

theorem stealVoice {v s} (hs : P s) : P (Machine.stealVoice v s) := by
  simp only [Machine.stealVoice]
  split
  · exact hs
  · exact H.slot _ _ _ (Keeps.attempt hs fun _ e => H.free _ _ _ hs e)

theorem startVoice {k m note vel h s} (hs : P s) : P (Machine.startVoice cfg k m note vel h s) := by
  simp only [Machine.startVoice]
  have h1 := H.programChannel (h := h) (p := (s.updSlot k fun _ => boundSlot m note vel h).patch[m])
    (H.slot s k (fun _ => boundSlot m note vel h) hs)
  have h2 := forOp_induct (cfg := cfg) (P := P) (h := h) (body := fun i t => Machine.programOperator cfg k h i t)
    (fun _ _ ht => H.programOperator ht) h1
  refine Keeps.attempt (Keeps.attempt h2 fun _ e => H.setFreq h2 e) fun _ e => H.setKey ?_ e
  exact Keeps.attempt h2 fun _ e => H.setFreq h2 e

theorem allocOrSteal (ha : KeepsAlloc cfg P) {t s} (hs : P s) : P (Machine.allocOrSteal cfg t s).2 := by
  simp only [Machine.allocOrSteal]
  split
  · exact ha _ _ _ _ hs (by assumption)
  · split
    · exact hs
    · split
      · exact ha _ _ _ _ (H.stealVoice hs) (by assumption)
      · exact H.stealVoice hs

omit H in
theorem forVoices {m : MidiId} {body : SlotId → Handle → State → State} (hb : ∀ k h t, P t → P (body k h t)) {s}
    (hs : P s) : P (Machine.forVoices m body s) := visit_induct (P := P) (fun k h t ht _ _ => hb k h t ht) hs

theorem ctrlCommand {a c : Byte} {body : MidiId → BitVec 7 → State → Except Code State} {s t}
    (hb : ∀ m v u, body m v s = .ok u → P u) (hs : P s) (h : Machine.ctrlCommand a c body s = .next t) : P t := by
  simp only [Machine.ctrlCommand] at h
  split at h
  · split at h
    · exact H.complete (hb _ _ _ (by assumption)) h
    · exact H.refuse hs h
  · exact H.refuse hs h

theorem opCtrl {w put p a i c s t} (hs : P s) (h : Machine.opCtrl cfg w put p a i c s = .next t) : P t := by
  refine H.ctrlCommand (fun m v u e => ?_) hs h
  obtain rfl := ok_eq e
  refine Keeps.forVoices (fun k h t ht => ?_) (H.patch _ _ _ hs)
  simp only [OpApply.run]
  split
  · cases p with
    | setter f => exact Keeps.attempt ht fun _ e => H.setOp ht e
    | attenuation => exact H.setAtten ht
    | gated f =>
      dsimp only
      split
      · exact Keeps.attempt ht fun _ e => H.setOp ht e
      · exact ht
  · exact ht

theorem serviceVoice {d k h s} (hs : P s) : P (Machine.serviceVoice cfg d k h s).1 := by
  have h1 : P (advanceDuration cfg d k s) := H.slot _ _ _ hs
  have h2 : P (startLfo cfg k h (advanceDuration cfg d k s)) := by
    simp only [startLfo]
    split
    · refine H.slot _ _ _ (forOp_induct (P := P) (fun i t ht => ?_) h1)
      simp only [applyLfo]
      split
      · split
        · exact ht
        · exact H.lfo _ _ _ _ ht
      · exact ht
    · exact h1
  have h3 : ∀ u, P u → P (slowestRate cfg h u).2 := by
    intro u hu
    simp only [slowestRate]
    split
    · exact H.draw _ hu
    · exact hu
  simp only [Machine.serviceVoice, releaseTimer]
  split
  · split
    · exact H.forceSilence (h3 _ (H.slot _ _ _ h2))
    · exact h3 _ (H.slot _ _ _ h2)
  · exact h2

theorem withHandle {n p s t} (hp : ∀ h u, p h s = .ok u → P u) (hs : P s) (e : Machine.withHandle n p s = .next t) : P t := by
  simp only [Machine.withHandle] at e
  split at e
  · exact H.refuse hs e
  · exact H.replyBool hs (hp _) e

/-- The controllers. -/
theorem ctrlProgram {a c s t} (hs : P s) (h : execCtrlProgram a c s cfg = .next t) : P t := by
  refine H.ctrlCommand (fun m v u e => ?_) hs h
  split at e
  · exact (not_ok e).elim
  · obtain rfl := ok_eq e
    exact H.patch _ _ _ (Keeps.forVoices (fun _ _ _ ht => H.forceSilence ht) hs)

theorem ctrlVolume {a c s t} (hs : P s) (h : execCtrlVolume a c s cfg = .next t) : P t := by
  refine H.ctrlCommand (fun m v u e => ?_) hs h
  obtain rfl := ok_eq e
  refine Keeps.forVoices (fun k h t ht => forOp_induct (P := P) (fun i u hu => ?_) ht) (H.patch _ _ _ hs)
  split
  · exact H.setAtten hu
  · exact hu

theorem ctrlAlgorithm {a c s t} (hs : P s) (h : execCtrlAlgorithm a c s cfg = .next t) : P t := by
  refine H.ctrlCommand (fun m v u e => ?_) hs h
  split at e
  · exact (not_ok e).elim
  · obtain rfl := ok_eq e
    refine Keeps.forVoices (fun k h t ht => forOp_induct (P := P) (fun i u hu => H.setAtten hu) ?_) (H.patch _ _ _ hs)
    exact Keeps.attempt ht fun _ e => H.setAlgorithm ht e

theorem ctrlFeedback {a c s t} (hs : P s) (h : execCtrlFeedback a c s cfg = .next t) : P t := by
  refine H.ctrlCommand (fun m v u e => ?_) hs h
  obtain rfl := ok_eq e
  exact Keeps.forVoices (fun k h t ht => Keeps.attempt ht fun _ e => H.setFeedback ht e) (H.patch _ _ _ hs)

theorem ctrlOutput {a c s t} (hs : P s) (h : execCtrlOutput a c s cfg = .next t) : P t := by
  refine H.ctrlCommand (fun m v u e => ?_) hs h
  obtain rfl := ok_eq e
  exact Keeps.forVoices (fun k h t ht => Keeps.attempt ht fun _ e => H.setOutput ht e) (H.patch _ _ _ hs)

theorem ctrlLfoDelay {a c s t} (hs : P s) (h : execCtrlLfoDelay a c s = .next t) : P t := by
  refine H.ctrlCommand (fun m v u e => ?_) hs h
  obtain rfl := ok_eq e
  exact H.patch _ _ _ hs

theorem ctrlSustainPedal {a c s t} (hs : P s) (h : execCtrlSustainPedal a c s cfg = .next t) : P t := by
  refine H.ctrlCommand (fun m v u e => ?_) hs h
  split at e
  · obtain rfl := ok_eq e
    exact H.patch _ _ _ hs
  · obtain rfl := ok_eq e
    exact visit_induct (P := P) (fun k h t ht _ _ => H.releaseVoice ht) (H.patch _ _ _ hs)

theorem ctrlAllSoundOff {a c s t} (hs : P s) (h : execCtrlAllSoundOff a c s cfg = .next t) : P t := by
  refine H.ctrlCommand (fun m v u e => ?_) hs h
  obtain rfl := ok_eq e
  exact Keeps.forVoices (fun _ _ _ ht => H.forceSilence ht) hs

theorem ctrlAllNotesOff {a c s t} (hs : P s) (h : execCtrlAllNotesOff a c s cfg = .next t) : P t := by
  refine H.ctrlCommand (fun m v u e => ?_) hs h
  obtain rfl := ok_eq e
  exact Keeps.forVoices (fun _ _ _ ht => H.stopVoice ht) hs

theorem ctrl {a b c s t} (hs : P s) (h : execCtrl a b c s cfg = .next t) : P t := by
  simp only [execCtrl] at h
  split at h
  · exact H.ctrlProgram hs h
  · exact H.ctrlVolume hs h
  · exact H.ctrlAlgorithm hs h
  · exact H.ctrlFeedback hs h
  · exact H.ctrlOutput hs h
  · exact H.ctrlLfoDelay hs h
  iterate 13 exact H.opCtrl hs h
  · exact H.ctrlSustainPedal hs h
  · exact H.ctrlAllSoundOff hs h
  · exact H.ctrlAllNotesOff hs h
  · exact H.refuse hs h

/-- NOTE_ON, NOTE_OFF, PITCH_BEND, SERVICE. -/
theorem noteOn (ha : KeepsAlloc cfg P) {a b c s t} (hs : P s) (h : execNoteOn a b c s cfg = .next t) : P t := by
  simp only [execNoteOn] at h
  split at h
  · split at h
    · exact H.refuse hs h
    · rename_i m note vel _ _ _ _ k _
      have h1 := H.allocOrSteal ha (t := s.patch[m].ctype) hs
      split at h
      · rename_i s1 e1
        rw [e1] at h1
        exact H.refuse h1 h
      · rename_i h0 s1 e1
        rw [e1] at h1
        exact H.complete (H.startVoice h1) h
  · exact H.refuse hs h

theorem noteOff {a b s t} (hs : P s) (h : execNoteOff a b s cfg = .next t) : P t := by
  simp only [execNoteOff] at h
  split at h
  · refine H.complete ?_ h
    exact visit_induct (P := P) (fun _ _ _ ht _ _ => H.stopVoice ht) hs
  · exact H.refuse hs h

theorem pitchBend {a v s t} (hs : P s) (h : execPitchBend a v s cfg = .next t) : P t := by
  simp only [execPitchBend] at h
  split at h
  · exact H.refuse hs h
  · split at h
    · exact H.refuse hs h
    · refine H.complete ?_ h
      exact visit_induct (P := P) (fun k h t ht _ _ => Keeps.attempt ht fun _ e => H.setFreq ht e) (H.patch _ _ _ hs)

theorem service {v s t} (hs : P s) (h : execService v s cfg = .next t) : P t := by
  simp only [execService] at h
  refine H.complete ?_ h
  exact visit_induct (P := P) (fun _ _ _ ht _ _ => H.serviceVoice ht) hs

theorem detect (hp : KeepsProbe cfg P) {s t} (hs : P s) (h : execDetect s cfg = .next t) : P t := by
  simp only [execDetect] at h
  refine H.complete ?_ h
  have hr : ∀ u, P u → P (resetTimers cfg u) := fun _ hu => hp.1 _ _ _ (.inr rfl) (hp.1 _ _ _ (.inr rfl) hu)
  exact hr _ (hp.2 _ (hp.1 _ _ _ (.inr rfl) (hp.1 _ _ _ (.inl rfl) (hp.2 _ (hr _ hs)))))

theorem setOpCommand {f a b c s t} (hs : P s) (h : Machine.setOpCommand cfg f a b c s = .next t) : P t :=
  H.withHandle (fun _ _ e => H.setOp hs e) hs h


/-- What the primitive procedures of a command keep, the command keeps. -/
theorem execWith {i : Instr} (ha : allocates i = true → KeepsAlloc cfg P)
    (hp : i = .percEnable ∨ i = .percDisable → KeepsPerc cfg P) (hi : i = .init → KeepsInit cfg P)
    (hd : i = .detect → KeepsProbe cfg P) {s t} (hs : P s) (h : Machine.execWith cfg i s = .next t) : P t := by
  cases i <;> simp only [Machine.execWith] at h
  case nop => exact H.complete hs h
  case noteOn => exact H.noteOn (ha rfl) hs h
  case noteOff => exact H.noteOff hs h
  case ctrl => exact H.ctrl hs h
  case ctrlProgram => exact H.ctrlProgram hs h
  case ctrlVolume => exact H.ctrlVolume hs h
  case ctrlAlgorithm => exact H.ctrlAlgorithm hs h
  case ctrlFeedback => exact H.ctrlFeedback hs h
  case ctrlOutput => exact H.ctrlOutput hs h
  case ctrlLfoDelay => exact H.ctrlLfoDelay hs h
  case ctrlSustainPedal => exact H.ctrlSustainPedal hs h
  case ctrlAllSoundOff => exact H.ctrlAllSoundOff hs h
  case ctrlAllNotesOff => exact H.ctrlAllNotesOff hs h
  case pitchBend => exact H.pitchBend hs h
  case service => exact H.service hs h
  case init => exact H.complete (hi rfl _ hs) h
  case detect => exact H.detect (hd rfl) hs h
  case alloc =>
    simp only [execAlloc] at h
    split at h
    · exact H.refuse hs h
    · split at h
      · exact H.complete (ha rfl _ _ _ _ hs (by assumption)) h
      · exact H.refuse hs h
  case free => exact H.withHandle (fun _ _ e => H.free _ _ _ hs e) hs h
  case percEnable =>
    simp only [execPercEnable] at h
    split at h
    · exact H.refuse hs h
    · rename_i hc
      simp only [Bool.or_eq_true, Bool.not_eq_true', not_or, Bool.not_eq_true, Bool.not_eq_false,
        Bool.and_eq_true] at hc
      exact H.complete ((hp (.inl rfl)).1 _ hs hc.1 hc.2.1.1 hc.2.1.2 hc.2.2) h
  case percDisable =>
    simp only [execPercDisable] at h
    split at h
    · exact H.refuse hs h
    · rename_i hc
      simp only [Bool.or_eq_true, Bool.not_eq_true', not_or, Bool.not_eq_true, Bool.not_eq_false] at hc
      refine H.complete ((hp (.inr rfl)).2 _ hs hc.1 fun r => ?_) h
      have := hc.2
      simp only [List.any_eq_false, Vector.mem_toList_iff, id_eq, Bool.not_eq_true] at this
      exact this _ (Vector.getElem_mem _)
  case keyOn => exact H.withHandle (fun _ _ e => H.setKey hs e) hs h
  case keyOff => exact H.withHandle (fun _ _ e => H.setKey hs e) hs h
  case setFreq cfg => exact H.withHandle (fun _ _ e => H.setFreq hs e) hs h
  case setOutput cfg => exact H.withHandle (fun _ _ e => H.setOutput hs e) hs h
  case setFeedback cfg => exact H.withHandle (fun _ _ e => H.setFeedback hs e) hs h
  case setAlgorithm cfg => exact H.withHandle (fun _ _ e => H.setAlgorithm hs e) hs h
  case getOpType =>
    simp only [execGetOpType] at h
    split at h
    · exact H.refuse hs h
    · exact H.complete hs h
  case getOpCount =>
    simp only [execGetOpCount] at h
    split at h
    · exact H.refuse hs h
    · exact H.complete hs h
  all_goals first | exact H.opCtrl hs h | exact H.setOpCommand hs h

end Keeps

/-- `exec` is `execWith` at the parameters of R8. -/
theorem exec_eq (i : Instr) (s : State) : exec i s = execWith cvs i s := by cases i <;> rfl

/-- What the primitive procedures keep at the parameters of R8, `exec` keeps. -/
theorem Keeps.exec {P : State → Prop} (H : Keeps cvs P) {i : Instr} (ha : allocates i = true → KeepsAlloc cvs P)
    (hp : i = .percEnable ∨ i = .percDisable → KeepsPerc cvs P) (hi : i = .init → KeepsInit cvs P)
    (hd : i = .detect → KeepsProbe cvs P) {s t} (hs : P s) (h : Machine.exec i s = .next t) : P t :=
  H.execWith ha hp hi hd hs (exec_eq i s ▸ h)

end Sys2Proof.Machine
end

