-- ==== Sys2Proof/Laws/PerInstr.lean ====
section
/-! SUPPORT. Statements about every command, made per constructor of `Instr`. -/

namespace Sys2Proof.Laws

theorem and_ones8 (x : Byte) : x &&& 0xFF = x := BitVec.and_allOnes
theorem and_ones1 (x : BitVec 1) : x &&& 1 = x := BitVec.and_allOnes
theorem and_zeros (w : Nat) (x : BitVec w) : x &&& 0 = 0 := BitVec.and_zero

/-- Format B under the mask of a whole command code (R80). -/
theorem packB_mask (code a b c : Byte) : packB code a b c &&& 0xFF000000 = packB code 0 0 0 := by
  have h : (0xFF000000 : Word) = packB 0xFF 0 0 0 := by decide
  rw [h, packB, packB, packB, BitVec.and_append, BitVec.and_append, BitVec.and_append]
  simp only [and_ones8, and_zeros]

/-- Format B under the mask of a command code and a controller number (R88). -/
theorem packB_mask_controller (code a b c : Byte) : packB code a b c &&& 0xFF00FF00 = packB code 0 b 0 := by
  have h : (0xFF00FF00 : Word) = packB 0xFF 0 0xFF 0 := by decide
  rw [h, packB, packB, packB, BitVec.and_append, BitVec.and_append, BitVec.and_append]
  simp only [and_ones8, and_zeros]

/-- A controller with one number under the mask of its row (R88). -/
theorem packCtrl_mask {cfg : Config.Params} (a c : Byte) (n : Machine.Controller) :
    packCtrl cfg a n c &&& 0xFF00FF00 = packB 0x03 0 (Machine.controllerNumber cfg n) 0 := packB_mask_controller ..

/-- Format B under the mask of a command code and a group of four controller numbers (R88). -/
theorem packB_mask_group (code a b c : Byte) : packB code a b c &&& 0xFF00FC00 = packB code 0 (b &&& 0xFC) 0 := by
  have h : (0xFF00FC00 : Word) = packB 0xFF 0 0xFC 0 := by decide
  rw [h, packB, packB, packB, BitVec.and_append, BitVec.and_append, BitVec.and_append]
  simp only [and_ones8, and_zeros]

/-- An operator-field controller under the mask of its group (R88). -/
theorem packOpCtrl_mask {cfg : Config.Params} (n : Machine.Controller) (a c : Byte) (i : BitVec 2)
    (h : ∀ i : BitVec 2, (Machine.controllerNumber cfg n + i.setWidth 8) &&& 0xFC = Machine.controllerNumber cfg n) :
    packOpCtrl cfg a n i c &&& 0xFF00FC00 = packB 0x03 0 (Machine.controllerNumber cfg n) 0 := by
  rw [packOpCtrl, packB_mask_group, h]

/-- Format W under the mask of a whole command code (R80). -/
theorem packW_mask (code a : Byte) (v : BitVec 16) : packW code a v &&& 0xFF000000 = packW code 0 0 := by
  have h : (0xFF000000 : Word) = packW 0xFF 0 0 := by decide
  rw [h, packW, packW, packW, BitVec.and_append, BitVec.and_append]
  simp only [and_ones8, and_zeros]

/-- Format F under its one selecting bit (R80). -/
theorem packF_mask (h : BitVec 5) (freq : BitVec 26) : packF h freq &&& 0x80000000 = packF 0 0 := by
  have e : (0x80000000 : Word) = packF 0 0 := by decide
  rw [e, packF, packF, BitVec.and_append, BitVec.and_append]
  simp only [and_ones1, and_zeros]

/-- A command's word has the fixed bits of its row in spec/opcode_table.json (R88, R112). -/
def RowBits.Statement (i : Instr) : Prop := encode Machine.cvs i &&& i.row.mask = i.row.value

theorem RowBits.nop : RowBits.Statement (.nop) := packB_mask ..
theorem RowBits.noteOn (a b c : Byte) : RowBits.Statement (.noteOn a b c) := packB_mask ..
theorem RowBits.noteOff (a b : Byte) : RowBits.Statement (.noteOff a b) := packB_mask ..
theorem RowBits.ctrl (a b c : Byte) : RowBits.Statement (.ctrl a b c) := packB_mask ..
theorem RowBits.ctrlProgram (a c : Byte) : RowBits.Statement (.ctrlProgram a c) := packCtrl_mask ..
theorem RowBits.ctrlVolume (a c : Byte) : RowBits.Statement (.ctrlVolume a c) := packCtrl_mask ..
theorem RowBits.ctrlAlgorithm (a c : Byte) : RowBits.Statement (.ctrlAlgorithm a c) := packCtrl_mask ..
theorem RowBits.ctrlFeedback (a c : Byte) : RowBits.Statement (.ctrlFeedback a c) := packCtrl_mask ..
theorem RowBits.ctrlOutput (a c : Byte) : RowBits.Statement (.ctrlOutput a c) := packCtrl_mask ..
theorem RowBits.ctrlLfoDelay (a c : Byte) : RowBits.Statement (.ctrlLfoDelay a c) := packCtrl_mask ..
theorem RowBits.ctrlOpAttack (a : Byte) (i : BitVec 2) (c : Byte) : RowBits.Statement (.ctrlOpAttack a i c) :=
  packOpCtrl_mask .opAttack _ _ _ (by decide)
theorem RowBits.ctrlOpDecay (a : Byte) (i : BitVec 2) (c : Byte) : RowBits.Statement (.ctrlOpDecay a i c) :=
  packOpCtrl_mask .opDecay _ _ _ (by decide)
theorem RowBits.ctrlOpSustain (a : Byte) (i : BitVec 2) (c : Byte) : RowBits.Statement (.ctrlOpSustain a i c) :=
  packOpCtrl_mask .opSustain _ _ _ (by decide)
theorem RowBits.ctrlOpRelease (a : Byte) (i : BitVec 2) (c : Byte) : RowBits.Statement (.ctrlOpRelease a i c) :=
  packOpCtrl_mask .opRelease _ _ _ (by decide)
theorem RowBits.ctrlOpWaveform (a : Byte) (i : BitVec 2) (c : Byte) : RowBits.Statement (.ctrlOpWaveform a i c) :=
  packOpCtrl_mask .opWaveform _ _ _ (by decide)
theorem RowBits.ctrlOpLevel (a : Byte) (i : BitVec 2) (c : Byte) : RowBits.Statement (.ctrlOpLevel a i c) :=
  packOpCtrl_mask .opLevel _ _ _ (by decide)
theorem RowBits.ctrlOpKsl (a : Byte) (i : BitVec 2) (c : Byte) : RowBits.Statement (.ctrlOpKsl a i c) :=
  packOpCtrl_mask .opKsl _ _ _ (by decide)
theorem RowBits.ctrlOpMult (a : Byte) (i : BitVec 2) (c : Byte) : RowBits.Statement (.ctrlOpMult a i c) :=
  packOpCtrl_mask .opMult _ _ _ (by decide)
theorem RowBits.ctrlOpTremolo (a : Byte) (i : BitVec 2) (c : Byte) : RowBits.Statement (.ctrlOpTremolo a i c) :=
  packOpCtrl_mask .opTremolo _ _ _ (by decide)
theorem RowBits.ctrlOpVibrato (a : Byte) (i : BitVec 2) (c : Byte) : RowBits.Statement (.ctrlOpVibrato a i c) :=
  packOpCtrl_mask .opVibrato _ _ _ (by decide)
theorem RowBits.ctrlOpSusflag (a : Byte) (i : BitVec 2) (c : Byte) : RowBits.Statement (.ctrlOpSusflag a i c) :=
  packOpCtrl_mask .opSusflag _ _ _ (by decide)
theorem RowBits.ctrlOpEnvscale (a : Byte) (i : BitVec 2) (c : Byte) : RowBits.Statement (.ctrlOpEnvscale a i c) :=
  packOpCtrl_mask .opEnvscale _ _ _ (by decide)
theorem RowBits.ctrlOpVelsens (a : Byte) (i : BitVec 2) (c : Byte) : RowBits.Statement (.ctrlOpVelsens a i c) :=
  packOpCtrl_mask .opVelsens _ _ _ (by decide)
theorem RowBits.ctrlSustainPedal (a c : Byte) : RowBits.Statement (.ctrlSustainPedal a c) := packCtrl_mask ..
theorem RowBits.ctrlAllSoundOff (a c : Byte) : RowBits.Statement (.ctrlAllSoundOff a c) := packCtrl_mask ..
theorem RowBits.ctrlAllNotesOff (a c : Byte) : RowBits.Statement (.ctrlAllNotesOff a c) := packCtrl_mask ..
theorem RowBits.pitchBend (a : Byte) (v : BitVec 16) : RowBits.Statement (.pitchBend a v) := packW_mask ..
theorem RowBits.service (v : BitVec 16) : RowBits.Statement (.service v) := packW_mask ..
theorem RowBits.init : RowBits.Statement (.init) := packB_mask ..
theorem RowBits.detect : RowBits.Statement (.detect) := packB_mask ..
theorem RowBits.alloc (a : Byte) : RowBits.Statement (.alloc a) := packB_mask ..
theorem RowBits.free (a : Byte) : RowBits.Statement (.free a) := packB_mask ..
theorem RowBits.percEnable : RowBits.Statement (.percEnable) := packB_mask ..
theorem RowBits.percDisable : RowBits.Statement (.percDisable) := packB_mask ..
theorem RowBits.keyOn (a : Byte) : RowBits.Statement (.keyOn a) := packB_mask ..
theorem RowBits.keyOff (a : Byte) : RowBits.Statement (.keyOff a) := packB_mask ..
theorem RowBits.getOpType (a b : Byte) : RowBits.Statement (.getOpType a b) := packB_mask ..
theorem RowBits.getOpCount (a : Byte) : RowBits.Statement (.getOpCount a) := packB_mask ..
theorem RowBits.setOpAttack (a b c : Byte) : RowBits.Statement (.setOpAttack a b c) := packB_mask ..
theorem RowBits.setOpDecay (a b c : Byte) : RowBits.Statement (.setOpDecay a b c) := packB_mask ..
theorem RowBits.setOpSustain (a b c : Byte) : RowBits.Statement (.setOpSustain a b c) := packB_mask ..
theorem RowBits.setOpRelease (a b c : Byte) : RowBits.Statement (.setOpRelease a b c) := packB_mask ..
theorem RowBits.setOpWaveform (a b c : Byte) : RowBits.Statement (.setOpWaveform a b c) := packB_mask ..
theorem RowBits.setOpAttenuation (a b c : Byte) : RowBits.Statement (.setOpAttenuation a b c) := packB_mask ..
theorem RowBits.setOpKsl (a b c : Byte) : RowBits.Statement (.setOpKsl a b c) := packB_mask ..
theorem RowBits.setOpMult (a b c : Byte) : RowBits.Statement (.setOpMult a b c) := packB_mask ..
theorem RowBits.setOpTremolo (a b c : Byte) : RowBits.Statement (.setOpTremolo a b c) := packB_mask ..
theorem RowBits.setOpVibrato (a b c : Byte) : RowBits.Statement (.setOpVibrato a b c) := packB_mask ..
theorem RowBits.setOpSusflag (a b c : Byte) : RowBits.Statement (.setOpSusflag a b c) := packB_mask ..
theorem RowBits.setOpEnvscale (a b c : Byte) : RowBits.Statement (.setOpEnvscale a b c) := packB_mask ..
theorem RowBits.setOutput (a c : Byte) : RowBits.Statement (.setOutput a c) := packB_mask ..
theorem RowBits.setFeedback (a c : Byte) : RowBits.Statement (.setFeedback a c) := packB_mask ..
theorem RowBits.setAlgorithm (a c : Byte) : RowBits.Statement (.setAlgorithm a c) := packB_mask ..
theorem RowBits.setFreq (h : BitVec 5) (freq : BitVec 26) : RowBits.Statement (.setFreq h freq) := packF_mask ..

end Sys2Proof.Laws
end

