-- ==== Sys2Proof/Tests/Slice0.lean ====
section
/-! SUPPORT. Tests. Expected words and register writes are those of the spec: the encodings of 30_encoding.md and R88, the
vectors of 95_test_vectors.md and the worked examples of 41_voice_events.md and 42_controllers.md. Then, for every statement
with hypotheses, a witness that meets them. -/

namespace Sys2Proof.Tests

open Sys2Proof.Machine

/-! ### States -/

/-- Reset with the TwoOp channel 15 held, as after `ALLOC TwoOp`. -/
def held : State :=
  { State.reset with allocd := State.reset.allocd.set 15 true, free2 := State.reset.free2.set 15 false }

/-- Reset with the FourOp channel 11 held, as after `ALLOC FourOp`. -/
def held4 : State :=
  { State.reset with
    allocd := State.reset.allocd.set 11 true
    ctype := (State.reset.ctype.set 11 .fourOp).set 14 .null
    free2 := (State.reset.free2.set 11 false).set 14 false
    fourOpMask := 0x20 }

/-- Reset with percussion mode on, as after `PERC_ENABLE`. -/
def drums : State :=
  { State.reset with percEnabled := true, free2 := ((State.reset.free2.set 6 false).set 7 false).set 8 false }

/-- The same with the Snare held. -/
def snare : State := { drums with allocd := drums.allocd.set 19 true }

/-- An operator of the voice of R172: the default template, attenuation 7. -/
def playedOper : Oper :=
  { trem := 0, vib := 0, sus := 1, ksr := 0, mult := 1, ksl := 0, tl := 7, ar := 11, dr := 1, sl := 5, rr := 7, ws := 0 }

/-- The voice of R172: reset and `NOTE_ON 0, 60, 100`. -/
def playing : State :=
  { held with
    chan := held.chan.set 15 { fnum := 689, block := 3, keyOn := 1, out := 3, fb := 0, cnt := 0 }
    oper := (held.oper.set 30 playedOper).set 33 playedOper
    slot := held.slot.set 0 (boundSlot 0 60 100 15) }

/-- The same with its LFO triggered. -/
def triggered : State := { playing with slot := playing.slot.set 0 { boundSlot 0 60 100 15 with lfoTriggered := true } }

/-- The same, Releasing since 614 ms. -/
def releasing : State :=
  { playing with
    chan := playing.chan.set 15 { fnum := 689, block := 3, keyOn := 0, out := 3, fb := 0, cnt := 0 }
    slot := playing.slot.set 0 { boundSlot 0 60 100 15 with releasing := true, releaseDuration := 614 } }

/-- The same, Sustained with the pedal down. -/
def sustained : State :=
  { playing with
    patch := playing.patch.set 0 { cvs.patchDefault with pedal := true }
    slot := playing.slot.set 0 { boundSlot 0 60 100 15 with sustained := true } }

/-- A command's `RESULT` and register writes. -/
def gives (i : Instr) (s : State) (r : BitVec 16) (ws : List RegVal) : Bool :=
  match exec i s with
  | .next t => t.result == r && t.trace == s.trace ++ ws.flatMap (fun w => regTx w.1 w.2) && !t.busy
  | _ => false

/-- The state a command leaves. -/
def after (i : Instr) (s : State) : State :=
  match exec i s with
  | .next t => t
  | _ => s

/-- `s` with `w` in `CMD` and the command in flight. -/
def inFlight (w : Word) (s : State) : State := { s with cmd := w, busy := true }

/-! ### Parameters and well-formedness -/

theorem test_parameters_legal : cvs.legal = true := by decide

/-- Another chip, on another `BASE`: percussion register 1:BE with the mode bit at bit 7, and a map of one controller
(R3, V14). -/
def otherChip : Config.Params :=
  { cvs with
    base := 0x220, ccmap := [⟨20, 20, .volume⟩]
    regs := { regMap with percussion := (1, 0xBE), bits := { bitMap with percEnabled := 7 } } }

/-- PERC_ENABLE on the other chip: its ports, its register, its bit (R62, R63, R104, R127). -/
theorem test_other_chip_register :
    (match execWith otherChip .percEnable State.reset with
      | .next t => t.trace
      | _ => []) = [.write 0x222 0xBE, .write 0x223 0x80] := by decide

/-- The other controller map in a step: `CTRL 0, 20, 0` is VOLUME there (R88). -/
theorem test_other_chip_controller :
    otherChip.legal = true ∧ decode otherChip 0x03001400 = .ok (.ctrlVolume 0 0)
    ∧ stepWith otherChip (inFlight 0x03001400 State.reset)
      = execWith otherChip (.ctrlVolume 0 0) (inFlight 0x03001400 State.reset) := ⟨by decide, by decide, rfl⟩

theorem test_ctrl_assigned_controller_ill_formed : Instr.wf cvs (.ctrl 0 7 100) = false := by decide
theorem test_ctrl_operator_controller_ill_formed : Instr.wf cvs (.ctrl 0 63 100) = false := by decide
theorem test_ctrl_unassigned_controller_well_formed : Instr.wf cvs (.ctrl 0 5 0) = true := by decide

/-! ### Decoding, one word for every command -/

theorem test_decode_nop : decode cvs 0x00FFFFFF = .ok (.nop) := by decide
theorem test_decode_noteOn : decode cvs 0x010F7F7E = .ok (.noteOn 15 127 126) := by decide
theorem test_decode_noteOff : decode cvs 0x020924FF = .ok (.noteOff 9 36) := by decide
theorem test_decode_ctrl : decode cvs 0x03000509 = .ok (.ctrl 0 5 9) := by decide
theorem test_decode_ctrlProgram : decode cvs 0x03020305 = .ok (.ctrlProgram 2 5) := by decide
theorem test_decode_ctrlVolume : decode cvs 0x03000764 = .ok (.ctrlVolume 0 100) := by decide
theorem test_decode_ctrlAlgorithm : decode cvs 0x03000840 = .ok (.ctrlAlgorithm 0 64) := by decide
theorem test_decode_ctrlFeedback : decode cvs 0x0300097F = .ok (.ctrlFeedback 0 127) := by decide
theorem test_decode_ctrlOutput : decode cvs 0x03000A08 = .ok (.ctrlOutput 0 8) := by decide
theorem test_decode_ctrlLfoDelay : decode cvs 0x03000B0A = .ok (.ctrlLfoDelay 0 10) := by decide
theorem test_decode_ctrlOpAttack : decode cvs 0x03000E40 = .ok (.ctrlOpAttack 0 2 64) := by decide
theorem test_decode_ctrlOpDecay : decode cvs 0x03001140 = .ok (.ctrlOpDecay 0 1 64) := by decide
theorem test_decode_ctrlOpSustain : decode cvs 0x03001701 = .ok (.ctrlOpSustain 0 3 1) := by decide
theorem test_decode_ctrlOpRelease : decode cvs 0x0300187F = .ok (.ctrlOpRelease 0 0 127) := by decide
theorem test_decode_ctrlOpWaveform : decode cvs 0x03001D10 = .ok (.ctrlOpWaveform 0 1 16) := by decide
theorem test_decode_ctrlOpLevel : decode cvs 0x03002340 = .ok (.ctrlOpLevel 0 3 64) := by decide
theorem test_decode_ctrlOpKsl : decode cvs 0x03002520 = .ok (.ctrlOpKsl 0 1 32) := by decide
theorem test_decode_ctrlOpMult : decode cvs 0x0300287F = .ok (.ctrlOpMult 0 0 127) := by decide
theorem test_decode_ctrlOpTremolo : decode cvs 0x03002C7F = .ok (.ctrlOpTremolo 0 0 127) := by decide
theorem test_decode_ctrlOpVibrato : decode cvs 0x0300317F = .ok (.ctrlOpVibrato 0 1 127) := by decide
theorem test_decode_ctrlOpSusflag : decode cvs 0x0300340F = .ok (.ctrlOpSusflag 0 0 15) := by decide
theorem test_decode_ctrlOpEnvscale : decode cvs 0x03003940 = .ok (.ctrlOpEnvscale 0 1 64) := by decide
theorem test_decode_ctrlOpVelsens : decode cvs 0x03003F7E = .ok (.ctrlOpVelsens 0 3 126) := by decide
theorem test_decode_ctrlSustainPedal : decode cvs 0x0300407F = .ok (.ctrlSustainPedal 0 127) := by decide
theorem test_decode_ctrlAllSoundOff : decode cvs 0x03027800 = .ok (.ctrlAllSoundOff 2 0) := by decide
theorem test_decode_ctrlAllNotesOff : decode cvs 0x03027B00 = .ok (.ctrlAllNotesOff 2 0) := by decide
theorem test_decode_pitchBend : decode cvs 0x04033FFF = .ok (.pitchBend 3 16383) := by decide
theorem test_decode_service : decode cvs 0x05AB000A = .ok (.service 10) := by decide
theorem test_decode_init : decode cvs 0x06000000 = .ok (.init) := by decide
theorem test_decode_detect : decode cvs 0x07000000 = .ok (.detect) := by decide
theorem test_decode_alloc : decode cvs 0x10020000 = .ok (.alloc 2) := by decide
theorem test_decode_free : decode cvs 0x11160000 = .ok (.free 22) := by decide
theorem test_decode_percEnable : decode cvs 0x12FFFFFF = .ok (.percEnable) := by decide
theorem test_decode_percDisable : decode cvs 0x13000000 = .ok (.percDisable) := by decide
theorem test_decode_keyOn : decode cvs 0x14120000 = .ok (.keyOn 18) := by decide
theorem test_decode_keyOff : decode cvs 0x15120000 = .ok (.keyOff 18) := by decide
theorem test_decode_getOpType : decode cvs 0x160F0100 = .ok (.getOpType 15 1) := by decide
theorem test_decode_getOpCount : decode cvs 0x170B0000 = .ok (.getOpCount 11) := by decide
theorem test_decode_setOpAttack : decode cvs 0x200F000B = .ok (.setOpAttack 15 0 11) := by decide
theorem test_decode_setOpDecay : decode cvs 0x210F0009 = .ok (.setOpDecay 15 0 9) := by decide
theorem test_decode_setOpSustain : decode cvs 0x220F0103 = .ok (.setOpSustain 15 1 3) := by decide
theorem test_decode_setOpRelease : decode cvs 0x230F0110 = .ok (.setOpRelease 15 1 16) := by decide
theorem test_decode_setOpWaveform : decode cvs 0x240F0007 = .ok (.setOpWaveform 15 0 7) := by decide
theorem test_decode_setOpAttenuation : decode cvs 0x250F0140 = .ok (.setOpAttenuation 15 1 64) := by decide
theorem test_decode_setOpKsl : decode cvs 0x260F0102 = .ok (.setOpKsl 15 1 2) := by decide
theorem test_decode_setOpMult : decode cvs 0x270F000F = .ok (.setOpMult 15 0 15) := by decide
theorem test_decode_setOpTremolo : decode cvs 0x280F0001 = .ok (.setOpTremolo 15 0 1) := by decide
theorem test_decode_setOpVibrato : decode cvs 0x290F0001 = .ok (.setOpVibrato 15 0 1) := by decide
theorem test_decode_setOpSusflag : decode cvs 0x2A0F0001 = .ok (.setOpSusflag 15 0 1) := by decide
theorem test_decode_setOpEnvscale : decode cvs 0x2B0B0301 = .ok (.setOpEnvscale 11 3 1) := by decide
theorem test_decode_setOutput : decode cvs 0x300F000F = .ok (.setOutput 15 15) := by decide
theorem test_decode_setFeedback : decode cvs 0x310F0007 = .ok (.setFeedback 15 7) := by decide
theorem test_decode_setAlgorithm : decode cvs 0x320B0003 = .ok (.setAlgorithm 11 3) := by decide
theorem test_decode_setFreq : decode cvs 0xDBFFFFFF = .ok (.setFreq 22 67108863) := by decide

theorem test_decode_reserved : decode cvs 0x0F123456 = .error (.reservedCode 0x0F) := by decide
theorem test_table_word : decodeTableWord 32 0x01003C64 = some (.noteOn 0 60 100) := by decide

/-! ### One step of every command -/

set_option maxRecDepth 8000

theorem test_nop : gives (.nop) State.reset 0x0000 [] = true := by decide
theorem test_noteOn : gives (.noteOn 0 60 100) State.reset 0x0000
  [((1, 0xC6), 0x30), ((1, 0x30), 0x21), ((1, 0x50), 0x07), ((1, 0x70), 0xB1), ((1, 0x90), 0x57), ((1, 0xF0), 0x00),
   ((1, 0x33), 0x21), ((1, 0x53), 0x07), ((1, 0x73), 0xB1), ((1, 0x93), 0x57), ((1, 0xF3), 0x00), ((1, 0xA6), 0xB1),
   ((1, 0xB6), 0x0E), ((1, 0xB6), 0x2E)] = true := by decide
theorem test_noteOn_channel_out_of_range : gives (.noteOn 16 60 100) State.reset 0x02FF [] = true := by decide
theorem test_noteOff : gives (.noteOff 0 60) playing 0x0001 [((1, 0xB6), 0x0E)] = true := by decide
theorem test_noteOff_pedal : gives (.noteOff 0 60) sustained 0x0001 [] = true := by decide
theorem test_ctrl : gives (.ctrl 0 5 0) playing 0x0200 [] = true := by decide
theorem test_ctrlProgram : gives (.ctrlProgram 0 2) playing 0x0000
  [((1, 0xB6), 0x0E), ((1, 0x50), 0x3F), ((1, 0x90), 0x5F), ((1, 0x53), 0x3F), ((1, 0x93), 0x5F), ((1, 0xA6), 0x00),
   ((1, 0xB6), 0x00)] = true := by decide
theorem test_ctrlVolume : gives (.ctrlVolume 0 0) playing 0x0000 [((1, 0x53), 0x3F)] = true := by decide
theorem test_ctrlAlgorithm : gives (.ctrlAlgorithm 0 64) playing 0x0000
  [((1, 0xC6), 0x31), ((1, 0x50), 0x07), ((1, 0x53), 0x07)] = true := by decide
theorem test_ctrlFeedback : gives (.ctrlFeedback 0 127) playing 0x0000 [((1, 0xC6), 0x3E)] = true := by decide
theorem test_ctrlOutput : gives (.ctrlOutput 0 8) playing 0x0000 [((1, 0xC6), 0x10)] = true := by decide
theorem test_ctrlLfoDelay : gives (.ctrlLfoDelay 0 10) playing 0x0000 [] = true := by decide
theorem test_ctrlOpAttack : gives (.ctrlOpAttack 0 0 127) playing 0x0000 [((1, 0x70), 0xF1)] = true := by decide
theorem test_ctrlOpDecay : gives (.ctrlOpDecay 0 1 64) playing 0x0000 [((1, 0x73), 0xB8)] = true := by decide
theorem test_ctrlOpSustain : gives (.ctrlOpSustain 0 1 127) playing 0x0000 [((1, 0x93), 0xF7)] = true := by decide
theorem test_ctrlOpRelease : gives (.ctrlOpRelease 0 0 127) playing 0x0000 [((1, 0x90), 0x5F)] = true := by decide
theorem test_ctrlOpWaveform : gives (.ctrlOpWaveform 0 1 16) playing 0x0000 [((1, 0xF3), 0x01)] = true := by decide
theorem test_ctrlOpLevel : gives (.ctrlOpLevel 0 0 64) playing 0x0000 [((1, 0x50), 0x23)] = true := by decide
theorem test_ctrlOpKsl : gives (.ctrlOpKsl 0 0 127) playing 0x0000 [((1, 0x50), 0xC7)] = true := by decide
theorem test_ctrlOpMult : gives (.ctrlOpMult 0 1 16) playing 0x0000 [((1, 0x33), 0x22)] = true := by decide
theorem test_ctrlOpTremolo_untriggered : gives (.ctrlOpTremolo 0 0 127) playing 0x0000 [] = true := by decide
theorem test_ctrlOpTremolo : gives (.ctrlOpTremolo 0 0 127) triggered 0x0000 [((1, 0x30), 0xA1)] = true := by decide
theorem test_ctrlOpVibrato : gives (.ctrlOpVibrato 0 1 127) triggered 0x0000 [((1, 0x33), 0x61)] = true := by decide
theorem test_ctrlOpSusflag : gives (.ctrlOpSusflag 0 0 0) playing 0x0000 [((1, 0x30), 0x01)] = true := by decide
theorem test_ctrlOpEnvscale : gives (.ctrlOpEnvscale 0 1 64) playing 0x0000 [((1, 0x33), 0x31)] = true := by decide
theorem test_ctrlOpVelsens : gives (.ctrlOpVelsens 0 0 126) playing 0x0000 [((1, 0x50), 0x0D)] = true := by decide
theorem test_ctrlSustainPedal : gives (.ctrlSustainPedal 0 63) sustained 0x0000 [((1, 0xB6), 0x0E)] = true := by decide
theorem test_ctrlAllSoundOff : gives (.ctrlAllSoundOff 0 0) playing 0x0000
  [((1, 0xB6), 0x0E), ((1, 0x50), 0x3F), ((1, 0x90), 0x5F), ((1, 0x53), 0x3F), ((1, 0x93), 0x5F), ((1, 0xA6), 0x00),
   ((1, 0xB6), 0x00)] = true := by decide
theorem test_ctrlAllNotesOff : gives (.ctrlAllNotesOff 0 0) playing 0x0000 [((1, 0xB6), 0x0E)] = true := by decide
theorem test_pitchBend : gives (.pitchBend 0 16383) playing 0x0001
  [((1, 0xA6), 0x06), ((1, 0xB6), 0x2F)] = true := by decide
theorem test_service : gives (.service 0) releasing 0x0000 [] = true := by decide
theorem test_service_expiry : gives (.service 1) releasing 0x0001
  [((1, 0xB6), 0x0E), ((1, 0x50), 0x3F), ((1, 0x90), 0x5F), ((1, 0x53), 0x3F), ((1, 0x93), 0x5F), ((1, 0xA6), 0x00),
   ((1, 0xB6), 0x00)] = true := by decide
theorem test_alloc : gives (.alloc 1) State.reset 0x000F [] = true := by decide
theorem test_alloc_merge : gives (.alloc 2) State.reset 0x000B [((1, 0x04), 0x20)] = true := by decide
theorem test_free : gives (.free 15) held 0x0001 [] = true := by decide
theorem test_free_twice : gives (.free 15) State.reset 0x0100 [] = true := by decide
theorem test_percEnable : gives (.percEnable) State.reset 0x0001 [((0, 0xBD), 0x20)] = true := by decide
theorem test_percDisable : gives (.percDisable) drums 0x0001 [((0, 0xBD), 0x00)] = true := by decide
theorem test_keyOn : gives (.keyOn 19) snare 0x0001 [((0, 0xBD), 0x28)] = true := by decide
theorem test_keyOff : gives (.keyOff 15) playing 0x0001 [((1, 0xB6), 0x0E)] = true := by decide
theorem test_getOpType : gives (.getOpType 15 0) State.reset 0x0002 [] = true := by decide
theorem test_getOpCount : gives (.getOpCount 14) held4 0x0000 [] = true := by decide
theorem test_setOpAttack : gives (.setOpAttack 15 0 15) held 0x0001 [((1, 0x70), 0xF0)] = true := by decide
theorem test_setOpDecay : gives (.setOpDecay 15 0 16) held 0x0200 [] = true := by decide
theorem test_setOpDecay_ok : gives (.setOpDecay 15 0 9) playing 0x0001 [((1, 0x70), 0xB9)] = true := by decide
theorem test_setOpSustain : gives (.setOpSustain 15 1 3) held 0x0001 [((1, 0x93), 0x3F)] = true := by decide
theorem test_setOpRelease : gives (.setOpRelease 15 1 0) held 0x0001 [((1, 0x93), 0x00)] = true := by decide
theorem test_setOpWaveform : gives (.setOpWaveform 15 0 7) held 0x0001 [((1, 0xF0), 0x07)] = true := by decide
theorem test_setOpAttenuation : gives (.setOpAttenuation 15 1 0) held 0x0001 [((1, 0x53), 0x00)] = true := by decide
theorem test_setOpKsl : gives (.setOpKsl 15 1 2) held 0x0001 [((1, 0x53), 0xBF)] = true := by decide
theorem test_setOpMult : gives (.setOpMult 15 0 15) held 0x0001 [((1, 0x30), 0x0F)] = true := by decide
theorem test_setOpTremolo : gives (.setOpTremolo 15 0 1) held 0x0001 [((1, 0x30), 0x80)] = true := by decide
theorem test_setOpVibrato : gives (.setOpVibrato 15 0 1) held 0x0001 [((1, 0x30), 0x40)] = true := by decide
theorem test_setOpSusflag : gives (.setOpSusflag 15 0 1) held 0x0001 [((1, 0x30), 0x20)] = true := by decide
theorem test_setOpEnvscale : gives (.setOpEnvscale 15 0 1) held 0x0001 [((1, 0x30), 0x10)] = true := by decide
theorem test_setOutput : gives (.setOutput 11 3) held4 0x0001 [((1, 0xC2), 0x30), ((1, 0xC5), 0x30)] = true := by decide
theorem test_setFeedback : gives (.setFeedback 11 5) held4 0x0001 [((1, 0xC2), 0x0A)] = true := by decide
theorem test_setAlgorithm : gives (.setAlgorithm 11 2) held4 0x0001
  [((1, 0xC2), 0x01), ((1, 0xC5), 0x00)] = true := by decide
theorem test_setFreq : gives (.setFreq 15 44000) held 0x0001 [((1, 0xA6), 0x44), ((1, 0xB6), 0x12)] = true := by decide
theorem test_setFreq_clamps : gives (.setFreq 15 67108863) held 0x0001
  [((1, 0xA6), 0xFF), ((1, 0xB6), 0x1F)] = true := by decide

/-- INIT: 237 register writes (95_test_vectors.md 2.8). -/
theorem test_init : (after .init playing).trace.length = 474 ∧ (after .init playing).result = 0x0000 := by decide

/-- DETECT with the two status bytes of the first vector of 2.8. -/
theorem test_detect : (after .detect { State.reset with reads := [0x00, 0xC0] }).result = 0x0001 := by decide
theorem test_detect_fails : (after .detect { State.reset with reads := [0x20, 0xC0] }).result = 0x0000 := by decide

/-- A step runs the command that `withFetchWord` places, and an idle block stays as it is. -/
theorem test_step_runs : step (held.withFetchWord 32 0x110F0000) = exec (.free 15) (held.withFetchWord 32 0x110F0000) :=
  rfl

/-! ### Witnesses: for every statement with hypotheses, a state and operands that meet them -/

theorem exec_after {i : Instr} {s : State} (h : (match exec i s with | .next _ => true | _ => false) = true) :
    exec i s = .next (after i s) := by
  simp only [after]
  revert h
  cases exec i s <;> simp

/-! Encoding -/

theorem witness_DecodeEncode : Instr.wf cvs (.ctrl 255 127 255) = true ∧ Instr.wf cvs (.setFreq 31 67108863) = true := by decide

theorem witness_DecodeLongestRow :
    decode cvs 0x03000C64 = .ok (.ctrlOpAttack 0 0 100) ∧ decode cvs 0x7FFFFFFF = .error (.reservedCode 0x7F) := by decide

theorem witness_UnusedFieldsIgnored :
    decode cvs 0x02003CFF = .ok (.noteOff 0 60) ∧ (0x02003C00 : Word) &&& usedBits (.noteOff 0 60) =
      0x02003CFF &&& usedBits (.noteOff 0 60) := by decide

/-- The two ends of each range of reserved codes, and a busy block with such a word. -/
theorem witness_ReservedCodes :
    ([0x08000000, 0x0FFFFFFF, 0x18000000, 0x1FFFFFFF, 0x2C000000, 0x2FFFFFFF, 0x33000000, 0x7FFFFFFF] : List Word).all
      (fun w => decide (decode cvs w = .error (.reservedCode (opcodeOf w)))) = true
    ∧ (inFlight 0x08000000 State.reset).busy = true ∧ (inFlight 0x08000000 State.reset).inputs = []
    ∧ decode cvs 0x03000500 = .ok (.ctrl 0 5 0) ∧ decode cvs 0x0300FFFF = .ok (.ctrl 0 255 255) := by decide

/-! The step -/

theorem witness_StepRunsCommand :
    (inFlight 0x01003C64 State.reset).busy = true ∧ (inFlight 0x01003C64 State.reset).inputs = []
    ∧ decode cvs (inFlight 0x01003C64 State.reset).cmd = .ok (.noteOn 0 60 100)
    ∧ decode cvs (BitVec.ofNat 32 (0xDBFFFFFF % 2 ^ 32)) = .ok (.setFreq 22 67108863) := by decide

theorem witness_StepTakesInput :
    State.reset.busy = false ∧ State.reset.inputs = []
    ∧ ({ State.reset with inputs := [.writeCmd 5] } : State).inputs = .writeCmd 5 :: [] := by decide

theorem witness_ResetEvent :
    ({ playing with inputs := [.reset 0] } : State).inputs = .reset 0 :: [] ∧ playing.busy = false
    ∧ ({ inFlight 0x02003C00 playing with inputs := [.reset 1] } : State).inputs = .reset 1 :: []
    ∧ (inFlight 0x02003C00 playing).busy = true := by decide

theorem witness_EveryCommandCompletes :
    Instr.service 0 = .service 0 ∧ ∃ t, exec (.noteOn 255 255 255) State.reset = .next t :=
  ⟨rfl, _, exec_after (by decide)⟩

/-! The bus -/

theorem step_ctrlVolume : step (inFlight 0x03000700 playing) = exec (.ctrlVolume 0 0) (inFlight 0x03000700 playing) := rfl

theorem witness_ChipFollowsTrace :
    step (inFlight 0x03000700 playing) = .next (after (.ctrlVolume 0 0) (inFlight 0x03000700 playing)) :=
  step_ctrlVolume.trans (exec_after (by decide))

theorem witness_RegistersWritten :
    Instr.ctrlVolume 0 0 ≠ .detect ∧ exec (.ctrlVolume 0 0) playing = .next (after (.ctrlVolume 0 0) playing) :=
  ⟨by decide, exec_after (by decide)⟩

theorem witness_RegisterEncoding :
    (chReg 8 0xA0).2 = 0xA8 ∧ (chReg 9 0xC0).2 = 0xC0 ∧ (opReg 17 0xE0).2 = 0xF5 ∧ (opReg 18 0x20).2 = 0x20
    ∧ (opReg 6 0x20).2 = 0x28 := by decide

/-- A state that the allocator's invariant holds of: a held TwoOp channel. -/
theorem held_allocInv : AllocInv held := by
  refine ⟨fun c => ?_, fun j => ?_⟩
  · fin_cases c <;> exact And.intro rfl rfl
  · fin_cases j <;> exact And.intro (by decide) (by decide)

/-- The voice of R172 leaves the allocator as `ALLOC TwoOp` does. -/
theorem playing_allocInv : AllocInv playing := by
  refine ⟨fun c => ?_, fun j => ?_⟩
  · fin_cases c <;> exact And.intro rfl rfl
  · fin_cases j <;> exact And.intro (by decide) (by decide)

theorem drums_allocInv : AllocInv drums := by
  refine ⟨fun c => ?_, fun j => ?_⟩
  · fin_cases c <;> exact And.intro rfl rfl
  · fin_cases j <;> exact And.intro (by decide) (by decide)

/-- One bound slot on a held handle meets the slot invariant. -/
theorem one_slotInv {s : State} (h0 : ∀ k : SlotId, s.slot[k].lchan = if k = 0 then some 15 else none)
    (ha : s.allocd[(15 : Handle)] = true) : SlotInv s := by
  refine ⟨fun k h e => ?_, fun k l h ek el => ?_⟩
  · rw [h0] at e
    split at e <;> cases e
    exact ha
  · rw [h0] at ek el
    split at ek <;> split at el <;> simp_all

theorem playing_slots : ∀ k : SlotId, playing.slot[k].lchan = if k = 0 then some 15 else none := by decide
theorem playing_slotInv : SlotInv playing := one_slotInv playing_slots (by decide)

theorem drums_slots : ∀ k : SlotId, drums.slot[k].lchan = none := by decide

theorem drums_slotInv : SlotInv drums := by
  refine ⟨fun k h e => ?_, fun k l h e => ?_⟩ <;> (rw [drums_slots] at e; cases e)

/-! Cache and chip -/

/-- The byte that the reset cache gives every mirrored register, by register base. -/
def resetByte (a : Nat) : Byte := if a % 256 / 32 = 2 then 0x3F else if a % 256 / 32 = 4 then 0x0F else 0x00

/-- Reset, with every chip register holding that byte. -/
def mirrored : State := { State.reset with chipRegs := (List.range 512).map (fun a => (a, resetByte a)) }

theorem mirrored_read {a : Nat} (h : a < 512) : Memory.read mirrored.chipRegs a = some (resetByte a) := by
  have e : ∀ l : List Nat, a ∈ l → Memory.read (l.map (fun a => ((a, resetByte a) : Host.Cell))) a = some (resetByte a) := by
    intro l
    induction l with
    | nil => intro h; cases h
    | cons b l ih =>
      intro h
      by_cases hb : b = a
      · subst hb; simp [Memory.read]
      · have := ih ((List.mem_cons.1 h).resolve_left (fun e => hb e.symm))
        simpa [Memory.read, hb] using this
  exact e _ (List.mem_range.2 h)

theorem mirrored_chipReg (r : SetId × Byte) : chipReg mirrored r = some (resetByte (chipAddr r.1 r.2)) := by
  refine mirrored_read ?_
  have := r.1.isLt
  have := r.2.isLt
  simp only [chipAddr]
  omega

theorem witness_CacheAgreementKept :
    CacheAgrees mirrored ∧ (∀ n rest, mirrored.inputs ≠ .reset n :: rest) ∧ step mirrored = .next mirrored := by
  refine ⟨?_, fun n rest h => (by cases h), rfl⟩
  simp only [CacheAgrees, mirrored_chipReg, Option.some.injEq]
  exact ⟨by decide, by decide, by decide, by decide⟩

/-! Invariants -/

theorem witness_AllocInvKept :
    AllocInv playing ∧ step (inFlight 0x10020000 playing) = exec (.alloc 2) (inFlight 0x10020000 playing)
    ∧ exec (.alloc 2) playing = .next (after (.alloc 2) playing) :=
  ⟨playing_allocInv, rfl, exec_after (by decide)⟩

theorem witness_PartitionAndCapacity : AllocInv held ∧ AllocInv drums := ⟨held_allocInv, drums_allocInv⟩

/-- NOTE_ON, and a FREE of a handle that no slot holds. -/
theorem witness_SlotInvKept :
    AllocInv playing ∧ SlotInv playing
    ∧ exec (.noteOn 0 64 100) playing = .next (after (.noteOn 0 64 100) playing)
    ∧ exec (.free 16) playing = .next (after (.free 16) playing)
    ∧ (∀ (k : SlotId) (h : Handle), playing.slot[k].lchan = some h → (16 : Byte).toNat ≠ h.val) := by
  refine ⟨playing_allocInv, playing_slotInv, exec_after (by decide), exec_after (by decide), fun k h e => ?_⟩
  rw [playing_slots] at e
  split at e <;> cases e
  decide

/-- With percussion mode off and with it on. -/
theorem witness_SlotAlwaysFree :
    (AllocInv playing ∧ SlotInv playing ∧ ∀ r : RoleId, playing.allocd[roleHandle r] = false)
    ∧ (AllocInv drums ∧ SlotInv drums ∧ drums.percEnabled = true) :=
  ⟨⟨playing_allocInv, playing_slotInv, by decide⟩, drums_allocInv, drums_slotInv, rfl⟩

theorem witness_DataInvariantsKept :
    exec (.pitchBend 0 0) playing = .next (after (.pitchBend 0 0) playing) ∧ Memory.wf playing.chipRegs
    ∧ (∀ k : SlotId, (playing.slot[k].lchan = none → playing.slot[k] = slotReset)
      ∧ (playing.slot[k].releasing = false → playing.slot[k].releaseDuration = 0))
    ∧ (∀ m : MidiId, playing.patch[m] = cvs.patchDefault) :=
  ⟨exec_after (by decide), by decide, by decide, by decide⟩

theorem witness_VoiceTransitions :
    Instr.wf cvs (.noteOff 0 60) = true ∧ Instr.noteOff 0 60 ≠ .init
    ∧ exec (.noteOff 0 60) playing = .next (after (.noteOff 0 60) playing)
    ∧ (after (.noteOff 0 60) playing).slot[(0 : SlotId)].voice = .releasing :=
  ⟨rfl, by decide, exec_after (by decide), by decide⟩

/-- A refusal that leaves all as it was, and the one that keeps its steal: a FourOp note on a full allocator. -/
def full : State :=
  { releasing with
    allocd := Vector.ofFn (fun h => decide (h.val < 18)), free2 := Vector.replicate 18 false
    patch := releasing.patch.set 1 { cvs.patchDefault with ctype := .fourOp } }

theorem witness_RefusalChangesNothing :
    exec (.noteOff 16 60) playing = .next (after (.noteOff 16 60) playing)
    ∧ (after (.noteOff 16 60) playing).result = 0x0200
    ∧ exec (.noteOn 1 60 100) full = .next (after (.noteOn 1 60 100) full) ∧ (after (.noteOn 1 60 100) full).result = 0x03FF
    ∧ (after (.noteOn 1 60 100) full).slot[(0 : SlotId)].lchan = none :=
  ⟨exec_after (by decide), by decide, exec_after (by decide), by decide, by decide⟩

theorem witness_WhoMayChange :
    Instr.wf cvs (.setFreq 15 44000) = true ∧ exec (.setFreq 15 44000) held = .next (after (.setFreq 15 44000) held)
    ∧ allocates (.setFreq 15 44000) = false ∧ writesPatches (.setFreq 15 44000) = false
    ∧ isVoiceManager (.setFreq 15 44000) = false ∧ movesHandles (.setFreq 15 44000) = false
    ∧ movesHandles (.getOpType 15 0) = false ∧ movesHandles .percEnable = false :=
  ⟨rfl, exec_after (by decide), rfl, rfl, rfl, rfl, rfl, rfl⟩

theorem witness_ChannelsIsolated :
    Instr.wf cvs (.ctrlVolume 1 0) = true ∧ midiOperand (.ctrlVolume 1 0) = some 1 ∧ (1 : Byte).toNat ≠ (0 : MidiId).val
    ∧ exec (.ctrlVolume 1 0) playing = .next (after (.ctrlVolume 1 0) playing)
    ∧ playing.slot[(0 : SlotId)].midiCh = 0 :=
  ⟨rfl, rfl, by decide, exec_after (by decide), by decide⟩

/-! Queries, allocation, percussion -/

theorem witness_QueriesAnswer : (22 : Byte).toNat = (22 : Handle).val ∧ (0 : Byte).toNat = (0 : Handle).val ∧ 22 < (23 : Byte).toNat := by
  decide

/-- A pool that has a member, an empty pool with a pair to split or to merge, and neither. -/
def splittable : State :=
  { State.reset with
    free2 := Vector.replicate 18 false, free4 := State.reset.free4.set 11 true
    ctype := (State.reset.ctype.set 11 .fourOp).set 14 .null }

theorem witness_AllocTwoOp :
    ([15, 16, 17, 6, 7, 8, 0, 3, 1, 4, 2, 5, 9, 12, 10, 13, 11, 14] : List PhysId).find? (fun c => held.free2[c]) = some 16
    ∧ ([15, 16, 17, 6, 7, 8, 0, 3, 1, 4, 2, 5, 9, 12, 10, 13, 11, 14] : List PhysId).find? (fun c => splittable.free2[c]) = none
    ∧ ([0, 1, 2, 3, 4, 5] : List PairId).find? (fun j => splittable.free4[cvs.pairs[j].1]) = some 5
    ∧ ([15, 16, 17, 6, 7, 8, 0, 3, 1, 4, 2, 5, 9, 12, 10, 13, 11, 14] : List PhysId).find? (fun c => full.free2[c]) = none
    ∧ ([0, 1, 2, 3, 4, 5] : List PairId).find? (fun j => full.free4[cvs.pairs[j].1]) = none := by decide

theorem witness_AllocFourOp :
    ([11, 10, 9, 2, 1, 0] : List PhysId).find? (fun c => splittable.free4[c]) = some 11
    ∧ ([11, 10, 9, 2, 1, 0] : List PhysId).find? (fun c => held4.free4[c]) = none
    ∧ ([5, 4, 3, 2, 1, 0] : List PairId).find? (fun j => held4.free2[cvs.pairs[j].1] && held4.free2[cvs.pairs[j].2]) = some 4
    ∧ ([11, 10, 9, 2, 1, 0] : List PhysId).find? (fun c => full.free4[c]) = none
    ∧ ([5, 4, 3, 2, 1, 0] : List PairId).find? (fun j => full.free2[cvs.pairs[j].1] && full.free2[cvs.pairs[j].2]) = none := by
  decide

theorem witness_AllocRole :
    (3 : Byte).toNat = 3 + (0 : RoleId).val ∧ (7 : Byte).toNat = 3 + (4 : RoleId).val
    ∧ drums.percEnabled = true ∧ drums.allocd[roleHandle 0] = false ∧ State.reset.percEnabled = false
    ∧ snare.percEnabled = true ∧ snare.allocd[roleHandle 1] = true ∧ 7 < (8 : Byte).toNat := by decide

theorem witness_FreeReturnsHandle :
    (15 : Byte).toNat = (15 : PhysId).val ∧ held.allocd[physHandle 15] = true
    ∧ (19 : Byte).toNat = 18 + (1 : RoleId).val ∧ snare.allocd[roleHandle 1] = true
    ∧ (∀ h : Handle, h.val = (22 : Byte).toNat → State.reset.allocd[h] = false)
    ∧ (∀ h : Handle, h.val ≠ (23 : Byte).toNat) := by decide

theorem witness_PercussionSwitch :
    (State.reset.percEnabled = false ∧ State.reset.free2[6] = true ∧ State.reset.free2[7] = true ∧ State.reset.free2[8] = true)
    ∧ (full.percEnabled = false ∧ ¬(full.free2[6] = true ∧ full.free2[7] = true ∧ full.free2[8] = true))
    ∧ (drums.percEnabled = true ∧ ∀ r : RoleId, drums.percKey[r] = false)
    ∧ ((after (.keyOn 19) snare).percKey[(1 : RoleId)] = true) := by decide

theorem witness_InvalidHandleRefused :
    handleOperand (.keyOn 22) = some 22 ∧ (∀ h : Handle, h.val = 22 → State.reset.allocd[h] = false)
    ∧ handleOperand (.setFreq 31 0) = some 31 ∧ (∀ h : Handle, h.val ≠ 31) := by decide

/-! Frequency, key, setters -/

theorem held_15 : held.allocd[(15 : Handle)] = true ∧ physChan cvs 15 = 15 ∧ ctypeOf held 15 = .twoOp := by decide
theorem held4_11 : held4.allocd[(11 : Handle)] = true ∧ physChan cvs 11 = 11 ∧ ctypeOf held4 11 = .fourOp := by decide

/-- The last frequency of block 0, the first of block 1, and the largest. -/
theorem witness_SetFreqWrites :
    ((15 : BitVec 5).toNat = (15 : Handle).val ∧ held.allocd[(15 : Handle)] = true ∧ physChan cvs 15 = 15)
    ∧ ((4849 : BitVec 26).toNat < 4850 * 2 ^ 0)
    ∧ ((4850 : BitVec 26).toNat < 4850 * 2 ^ 1 ∧ ∀ b' < 1, 4850 * 2 ^ b' ≤ (4850 : BitVec 26).toNat)
    ∧ (∀ b' < 7, 4850 * 2 ^ b' ≤ (67108863 : BitVec 26).toNat) := by decide

theorem witness_KeyWrites :
    (15 : Byte).toNat = (15 : PhysId).val ∧ held.allocd[physHandle 15] = true
    ∧ (19 : Byte).toNat = 18 + (1 : RoleId).val ∧ snare.allocd[roleHandle 1] = true
    ∧ (∀ h : Handle, h.val = (22 : Byte).toNat → State.reset.allocd[h] = false)
    ∧ (∀ h : Handle, h.val ≠ (23 : Byte).toNat) := by decide

/-- The largest value of every width. -/
theorem witness_SetOpWrites :
    (15 : Byte).toNat = (15 : Handle).val ∧ held.allocd[(15 : Handle)] = true
    ∧ (opsOf cvs held 15)[(1 : Byte).toNat]? = some 33
    ∧ (15 : Byte).toNat < 16 ∧ (7 : Byte).toNat < 8 ∧ (63 : Byte).toNat < 64 ∧ (3 : Byte).toNat < 4 ∧ (1 : Byte).toNat < 2 := by
  decide

/-- The first operator index and the first values that are refused. -/
theorem witness_SetterRangeRefused :
    handleOperand (.setOpKsl 15 0 4) = some (15 : Handle).val ∧ setOpOperands (.setOpKsl 15 0 4) = some (0, 4, 2)
    ∧ 2 ^ 2 ≤ (4 : Byte).toNat ∧ opCount cvs held 15 ≤ (2 : Byte).toNat ∧ 15 < (16 : Byte).toNat ∧ 7 < (8 : Byte).toNat
    ∧ ctypeOf snare 19 ∈ ([.snare, .tomTom, .cymbal, .hiHat] : List ChType) ∧ snare.allocd[(19 : Handle)] = true
    ∧ ctypeOf held 15 ∈ ([.twoOp, .kick] : List ChType) ∧ 1 < (2 : Byte).toNat ∧ ctypeOf held4 11 = .fourOp
    ∧ 3 < (4 : Byte).toNat := by decide

theorem witness_ChannelSetters :
    (15 : Byte).toNat = (15 : Handle).val ∧ held.allocd[(15 : Handle)] = true ∧ physChan cvs 15 = 15
    ∧ ctypeOf held 15 = .twoOp ∧ ctypeOf held 15 ∉ ([.snare, .tomTom, .cymbal, .hiHat] : List ChType)
    ∧ (11 : Byte).toNat = (11 : Handle).val ∧ held4.allocd[(11 : Handle)] = true ∧ physChan cvs 11 = 11 ∧ ctypeOf held4 11 = .fourOp := by
  decide

/-! Voices -/

/-- Any MIDI channel 0 patch of type `t` on `s`. -/
def programmedFor (t : ChType) (s : State) : State := { s with patch := s.patch.set 0 { cvs.patchDefault with ctype := t } }

theorem noteOn_operands :
    (0 : Byte).toNat = (0 : MidiId).val ∧ (127 : Byte).toNat = (127 : BitVec 7).toNat
    ∧ (∀ s ∈ [State.reset, programmedFor .fourOp State.reset, programmedFor .snare drums],
      s.slot[(0 : SlotId)].lchan = none ∧ ∀ j : SlotId, ¬ j < 0) := by
  refine ⟨rfl, rfl, fun s h => ?_⟩
  simp only [List.mem_cons, List.not_mem_nil, or_false] at h
  rcases h with rfl | rfl | rfl <;> exact ⟨by decide, by decide⟩

theorem witness_NoteOnTwoOp :
    allocOrSteal cvs State.reset.patch[(0 : MidiId)].ctype State.reset =
      (some (physHandle 15), (allocOrSteal cvs State.reset.patch[(0 : MidiId)].ctype State.reset).2)
    ∧ (allocOrSteal cvs State.reset.patch[(0 : MidiId)].ctype State.reset).2.ctype[(15 : PhysId)] = .twoOp :=
  ⟨Prod.ext (by decide) rfl, by decide⟩

theorem witness_NoteOnFourOp :
    allocOrSteal cvs .fourOp (programmedFor .fourOp State.reset) =
      (some (physHandle 11), (allocOrSteal cvs .fourOp (programmedFor .fourOp State.reset)).2)
    ∧ (allocOrSteal cvs .fourOp (programmedFor .fourOp State.reset)).2.ctype[(11 : PhysId)] = .fourOp
    ∧ (programmedFor .fourOp State.reset).patch[(0 : MidiId)].ctype = .fourOp :=
  ⟨Prod.ext (by decide) rfl, by decide, by decide⟩

theorem witness_NoteOnRole :
    allocOrSteal cvs .snare (programmedFor .snare drums) =
      (some (roleHandle 1), (allocOrSteal cvs .snare (programmedFor .snare drums)).2)
    ∧ (programmedFor .snare drums).patch[(0 : MidiId)].ctype = .snare :=
  ⟨Prod.ext (by decide) rfl, by decide⟩

/-- The allocation that succeeds, the one with nothing to steal, the steal that helps and the one that does not; and the
operands of the refusals. -/
theorem witness_NoteOnObtainsChannel :
    (allocate cvs .twoOp State.reset).toOption.isSome = true ∧ (allocate cvs .kick State.reset).toOption = none
    ∧ (∀ k : SlotId, State.reset.slot[k].lchan = none)
    ∧ (allocate cvs .twoOp full).toOption = none ∧ full.slot[(0 : SlotId)].lchan = some 15
    ∧ full.slot[(0 : SlotId)].releasing = true ∧ (∀ j : SlotId, ¬ j < 0)
    ∧ (allocate cvs .twoOp (full.stolen 0 15)).toOption.isSome = true ∧ (allocate cvs .fourOp (full.stolen 0 15)).toOption = none
    ∧ 15 < (16 : Byte).toNat ∧ 127 < (128 : Byte).toNat
    ∧ (∀ k : SlotId, ({ playing with slot := Vector.replicate 23 (boundSlot 0 60 100 15) } : State).slot[k].lchan ≠ none)
    ∧ (full.slot[(1 : SlotId)].lchan = none)
    ∧ (allocOrSteal cvs full.patch[(1 : MidiId)].ctype full).1 = none := by decide

theorem witness_NotesReleased :
    (60 : Byte).toNat = (60 : BitVec 7).toNat ∧ playing.patch[(0 : MidiId)].pedal = false
    ∧ sustained.patch[(0 : MidiId)].pedal = true ∧ (127 : Byte).toNat ≤ 127 ∧ 64 ≤ (64 : Byte).toNat ∧ (63 : Byte).toNat < 64
    ∧ voicesOf playing 0 (fun x => x.note == 60) = [(0, 15)] ∧ voicesOf sustained 0 (fun x => x.sustained) = [(0, 15)] := by
  decide

/-- The two ends of the range and the two sides of its centre. -/
theorem witness_PitchBendRetunes :
    (0 : BitVec 16).toNat ≤ 16383 ∧ (8191 : BitVec 16).toNat < 8192 ∧ ¬ (8192 : BitVec 16).toNat < 8192
    ∧ (16383 : BitVec 16).toNat ≤ 16383 ∧ voicesOf playing 0 (fun _ => true) = [(0, 15)] := by decide

/-- The two ends of the range, a semitone and a value between two. -/
theorem witness_FrequencyOperands :
    ((0 : BitVec 7).toNat : Int) * 100 + (-200) = (-2) * 100 + (0 : Nat)
    ∧ ((127 : BitVec 7).toNat : Int) * 100 + 200 = 129 * 100 + (0 : Nat)
    ∧ ((127 : BitVec 7).toNat : Int) * 100 + 199 = 128 * 100 + (99 : Nat)
    ∧ noteChz cvs (-2) = 728 ∧ noteChz cvs 69 = 44000 ∧ noteChz cvs 129 = 1408000
    ∧ (0 : Nat) ≤ 16383 ∧ (0 : Nat) ≤ 1 ∧ -200 ≤ (-200 : Int) ∧ (200 : Int) ≤ 200
    ∧ ((0 : BitVec 7).toNat : Int) * 100 + (-200) ≤ (127 : BitVec 7).toNat * 100 + 200 := by decide

theorem witness_FrequencyLaw :
    freqBlock cvs 0 < 7 ∧ freqBlock cvs 77600 = freqBlock cvs 155199 ∧ (620800 : Nat) ≤ 620843 := by decide

theorem witness_AttenuationLaw :
    playing.patch[playing.slot[(0 : SlotId)].midiCh].op[(0 : Fin 4)] = templateDefault ∧ playing.slot[(0 : SlotId)].velocity = 100
    ∧ playing.patch[playing.slot[(0 : SlotId)].midiCh].volume = 63 ∧ (opType cvs playing 15 1 = .carrier ↔ true = true)
    ∧ (opType cvs playing 15 0 = .carrier ↔ false = true) := by decide

/-! Controllers -/

theorem witness_EventRefused :
    15 < (16 : Byte).toNat ∧ 127 < (128 : Byte).toNat ∧ 16383 < (16384 : BitVec 16).toNat
    ∧ ctrlOperands (.ctrlVolume 16 0) = some (16, 0) ∧ Instr.wf cvs (.ctrl 0 5 0) = true ∧ 10 < (11 : Byte).toNat
    ∧ (programmedFor .snare drums).patch[(0 : MidiId)].ctype ∈ ([.snare, .tomTom, .cymbal, .hiHat] : List ChType) := by decide

theorem witness_ControllerStores :
    voicesOf held 0 (fun _ => true) = [] ∧ (127 : Byte).toNat ≤ 127 ∧ held.patch[(0 : MidiId)].ctype = .twoOp
    ∧ (programmedFor .fourOp held).patch[(0 : MidiId)].ctype = .fourOp
    ∧ ([(.twoOp, 0), (.twoOp, 1), (.fourOp, 0), (.fourOp, 1), (.fourOp, 2), (.fourOp, 3), (.kick, 0), (.snare, 0),
      (.tomTom, 0), (.cymbal, 0), (.hiHat, 0)] : List (ChType × BitVec 2))[(10 : Byte).toNat]? = some (.hiHat, 0) := by decide

/-- Operands of the controllers that act on bound voices, with one such voice. -/
theorem witness_OperatorControllers :
    (0 : Byte).toNat = (0 : MidiId).val ∧ (127 : Byte).toNat ≤ 127 ∧ voiceOpers playing 0 (fun _ => true) 1 = [33]
    ∧ voiceOpers triggered 0 (·.lfoTriggered) 0 = [30] := by decide

theorem witness_LevelControllers :
    (0 : Byte).toNat = (0 : MidiId).val ∧ (127 : Byte).toNat ≤ 127
    ∧ (attenTargets playing 0 (fun h j => opType cvs playing h j.val = .carrier)).map (·.1) = [33] := by decide

/-- A FourOp voice in slot 0 of MIDI channel 0. -/
def playing4 : State :=
  { held4 with
    slot := held4.slot.set 0 (boundSlot 0 60 100 11)
    patch := held4.patch.set 0 { cvs.patchDefault with ctype := .fourOp, algorithm := 3 } }

/-- Two voices of MIDI channel 0 on the TwoOp channels 15 and 16. -/
def duo : State :=
  { playing with
    allocd := playing.allocd.set 16 true, free2 := playing.free2.set 16 false
    slot := playing.slot.set 1 (boundSlot 0 64 100 16) }

theorem witness_AlgorithmController :
    (voicesOf duo 0 (fun _ => true) = [(0, 15), (1, 16)] ∧ duo.patch[(0 : MidiId)].ctype = .twoOp)
    ∧ (voicesOf playing 0 (fun _ => true) = [(0, 15)] ∧ playing.allocd[(15 : Handle)] = true
      ∧ ctypeOf playing 15 = playing.patch[(0 : MidiId)].ctype ∧ physChan cvs 15 = 15 ∧ playing.patch[(0 : MidiId)].ctype = .twoOp)
    ∧ (voicesOf playing4 0 (fun _ => true) = [(0, 11)] ∧ playing4.allocd[(11 : Handle)] = true
      ∧ ctypeOf playing4 11 = playing4.patch[(0 : MidiId)].ctype ∧ physChan cvs 11 = 11
      ∧ playing4.patch[(0 : MidiId)].ctype = .fourOp) := by decide

theorem witness_RoutingControllers :
    (0 : Byte).toNat = (0 : MidiId).val ∧ (127 : Byte).toNat ≤ 127 ∧ heldHandles playing 0 (fun _ => true) = [15]
    ∧ heldHandles playing4 0 (fun _ => true) = [11] := by decide

theorem witness_ForcedSilence :
    voicesOf duo 0 (fun _ => true) = [(0, 15), (1, 16)]
    ∧ voicesOf playing 0 (fun _ => true) = [(0, 15)] ∧ playing.allocd[(15 : Handle)] = true ∧ physChan cvs 15 = 15
    ∧ (127 : Byte).toNat ≤ 127
    ∧ ([(.twoOp, 0), (.twoOp, 1), (.fourOp, 0), (.fourOp, 1), (.fourOp, 2), (.fourOp, 3), (.kick, 0), (.snare, 0),
      (.tomTom, 0), (.cymbal, 0), (.hiHat, 0)] : List (ChType × BitVec 2))[(2 : Byte).toNat]? = some (.fourOp, 0) := by decide

theorem witness_AllSoundOffSilences :
    (0 : Byte).toNat = (0 : MidiId).val ∧ (127 : Byte).toNat ≤ 127 ∧ SlotInv playing
    ∧ heldHandles playing 0 (fun _ => true) = [15] := ⟨rfl, by decide, playing_slotInv, by decide⟩

/-- Two voices are silenced, and take a new algorithm, each completely before the next. -/
theorem test_ctrlAllSoundOff_two : gives (.ctrlAllSoundOff 0 0) duo 0x0000
  [((1, 0xB6), 0x0E), ((1, 0x50), 0x3F), ((1, 0x90), 0x5F), ((1, 0x53), 0x3F), ((1, 0x93), 0x5F), ((1, 0xA6), 0x00),
   ((1, 0xB6), 0x00), ((1, 0xB7), 0x00), ((1, 0x51), 0x3F), ((1, 0x91), 0x0F), ((1, 0x54), 0x3F), ((1, 0x94), 0x0F),
   ((1, 0xA7), 0x00), ((1, 0xB7), 0x00)] = true := by decide
theorem test_ctrlAlgorithm_two : gives (.ctrlAlgorithm 0 64) duo 0x0000
  [((1, 0xC6), 0x31), ((1, 0x50), 0x07), ((1, 0x53), 0x07), ((1, 0xC7), 0x01), ((1, 0x51), 0x07), ((1, 0x54), 0x07)]
    = true := by decide

/-! SERVICE -/

/-- A Releasing voice at the last millisecond of its release time: it stays for `SERVICE 0`, it goes for `SERVICE 1`. -/
theorem witness_ReleaseExpiry :
    (∀ (k l : SlotId) (h g : Handle), releasing.slot[k].lchan = some h → releasing.slot[l].lchan = some g → k ≠ l →
      ∀ n ∈ opsOf cvs releasing h, n ∉ opsOf cvs releasing g)
    ∧ releasing.slot[(0 : SlotId)].lchan = some 15 ∧ releasing.slot[(0 : SlotId)].releasing = true
    ∧ slowest releasing 15 = some 7
    ∧ (counted releasing.slot[(0 : SlotId)].releaseDuration 0).toNat = 614
    ∧ (counted releasing.slot[(0 : SlotId)].releaseDuration 1).toNat = 615
    ∧ (∀ j : SlotId, j ≠ 0 → releasing.slot[j].lchan = none) ∧ releasing.allocd[(15 : Handle)] = true ∧ physChan cvs 15 = 15
    ∧ releaseOver 7 615 = true ∧ releaseOver 7 614 = false := by
  refine ⟨fun k l h g hk hl hkl => ?_, by decide, by decide, by decide, by decide, by decide, by decide, by decide, by decide,
    by decide, by decide⟩
  have slots : ∀ k : SlotId, releasing.slot[k].lchan = if k = 0 then some 15 else none := by decide
  rw [slots] at hk hl
  split at hk <;> split at hl <;> simp_all

/-- Voices whose delay is just exceeded and whose delay is not, and two bound voices of which none is Releasing. -/
theorem witness_LfoStart :
    (∀ (k : SlotId) (h : Handle), releasing.slot[k].lchan = some h → releasing.slot[k].releasing = true → opsOf cvs releasing h ≠ [])
    ∧ (∀ k : SlotId, duo.slot[k].releasing = false)
    ∧ playing.slot[(0 : SlotId)].lchan = some 15 ∧ (∀ j : SlotId, j ≠ 0 → playing.slot[j].lchan = none)
    ∧ playing.slot[(0 : SlotId)].releasing = false ∧ playing.slot[(0 : SlotId)].lfoTriggered = false
    ∧ playing.patch[(0 : MidiId)].lfoDelay.toNat * 32 < (counted playing.slot[(0 : SlotId)].duration 1).toNat
    ∧ ¬ playing.patch[(0 : MidiId)].lfoDelay.toNat * 32 < (counted playing.slot[(0 : SlotId)].duration 0).toNat
    ∧ releaseOver 7 614 = false := by decide

end Sys2Proof.Tests
end

section
/-! The scope of the machine: what one step runs (O6), and how every command ends (O9). -/

namespace Sys2Proof.Scope

open Sys2Proof.Machine

/-! ### The step with a command in flight (R45, R46) -/

/-- A decoded command in flight is what `run` makes of it. -/
theorem runCommand_of_decode {cfg : Config.Params} {run : Instr → State → Out} {s : State} {i : Instr}
    (hi : decode cfg s.cmd = .ok i) : runCommand cfg run s = run i s := by
  simp only [runCommand, hi]

/-- While `busy`, the command in flight runs unless the reset event comes first (R301). -/
theorem stepBy_of_busy {cfg : Config.Params} {run : Instr → State → Out} {s : State} (hb : s.busy = true)
    (hr : ∀ n rest, s.inputs ≠ .reset n :: rest) : stepBy cfg run s = runCommand cfg run s := by
  cases hin : s.inputs with
  | nil => simp [stepBy, hb, hin]
  | cons act rest =>
    cases act with
    | reset n => exact absurd hin (hr n rest)
    | writeCmd w => simp [stepBy, hb, hin]

theorem step_of_decode {s : State} {i : Instr} (hb : s.busy = true) (hr : ∀ n rest, s.inputs ≠ .reset n :: rest)
    (hi : decode cvs s.cmd = .ok i) : step s = exec i s :=
  (stepBy_of_busy hb hr).trans (runCommand_of_decode hi)

theorem withFetchWord_busy (s : State) (nbits w : Nat) : (s.withFetchWord nbits w).busy = true := rfl

theorem withFetchWord_cmd (s : State) (nbits w : Nat) :
    (s.withFetchWord nbits w).cmd = BitVec.ofNat 32 (w % 2 ^ nbits) := rfl

/-- `withFetchWord` leaves no reset event before the word that it places (log 6). -/
theorem withFetchWord_inputs_ne_reset (s : State) (nbits w n : Nat) (rest : List HostInput) :
    (s.withFetchWord nbits w).inputs ≠ .reset n :: rest := by
  intro (h : s.inputs.dropWhile HostInput.isReset = .reset n :: rest)
  have hhead := List.head?_dropWhile_not HostInput.isReset s.inputs
  simp [h, HostInput.isReset] at hhead

/-- `step` is `stepWith` at the parameters of R8. -/
theorem step_eq (s : State) : step s = stepWith cvs s := by
  have hrun : exec = execWith cvs := funext fun i => funext fun s => exec_eq i s
  rw [step, stepWith, hrun]

/-- Settles O6: a busy step without a reset event is `exec` of the decoded command, and `withFetchWord` sets up such a step. -/
theorem stepRunsCommand : Obligations.StepRunsCommand :=
  ⟨fun _ _ hb hr hi => step_of_decode hb hr hi,
    fun s nbits w _ hi => step_of_decode (withFetchWord_busy s nbits w) (withFetchWord_inputs_ne_reset s nbits w)
      (withFetchWord_cmd s nbits w ▸ hi),
    exec_eq, step_eq⟩

/-! ### Every command ends with an answer (R45, R270, R271) -/

/-- A command has run to completion: some state takes `RESULT` and `busy` falls. -/
def EndsWithAnswer (o : Out) : Prop := ∃ u c v, o = .next (State.answer u c v)

theorem complete_ends (v : Byte) (s : State) : EndsWithAnswer (complete v s) := ⟨s, .ok, v, rfl⟩

theorem refuse_ends (c : Code) (v : Byte) (s : State) : EndsWithAnswer (refuse c v s) := ⟨s, c, v, rfl⟩

theorem replyBool_ends (s : State) (r : Except Code State) : EndsWithAnswer (replyBool s r) := by
  cases r with
  | ok t => exact complete_ends ..
  | error c => exact refuse_ends ..

theorem withHandle_ends (n : Nat) (call : Handle → State → Except Code State) (s : State) :
    EndsWithAnswer (withHandle n call s) := by
  unfold withHandle
  split
  · exact refuse_ends ..
  · exact replyBool_ends ..

theorem ctrlCommand_ends (a c : Byte) (body : MidiId → BitVec 7 → State → Except Code State) (s : State) :
    EndsWithAnswer (ctrlCommand a c body s) := by
  unfold ctrlCommand
  split
  · split
    · exact complete_ends ..
    · exact refuse_ends ..
  · exact refuse_ends ..

theorem opCtrl_ends (cfg : Config.Params) (w : Nat) (put : Nat → Template → Template) (how : OpApply) (a : Byte)
    (i : BitVec 2) (c : Byte) (s : State) : EndsWithAnswer (opCtrl cfg w put how a i c s) := ctrlCommand_ends ..

theorem execCtrl_ends (cfg : Config.Params) (a b c : Byte) (s : State) : EndsWithAnswer (execCtrl a b c s cfg) := by
  simp only [execCtrl]
  split
  iterate 6 exact ctrlCommand_ends ..
  iterate 13 exact opCtrl_ends ..
  iterate 3 exact ctrlCommand_ends ..
  exact refuse_ends ..

theorem execNoteOn_ends (cfg : Config.Params) (a b c : Byte) (s : State) :
    EndsWithAnswer (execNoteOn a b c s cfg) := by
  unfold execNoteOn
  split
  · split
    · exact refuse_ends ..
    · split
      · exact refuse_ends ..
      · exact complete_ends ..
  · exact refuse_ends ..

theorem execNoteOff_ends (cfg : Config.Params) (a b : Byte) (s : State) : EndsWithAnswer (execNoteOff a b s cfg) := by
  unfold execNoteOff
  split
  · exact complete_ends ..
  · exact refuse_ends ..

theorem execPitchBend_ends (cfg : Config.Params) (a : Byte) (v : BitVec 16) (s : State) :
    EndsWithAnswer (execPitchBend a v s cfg) := by
  unfold execPitchBend
  split
  · exact refuse_ends ..
  · split
    · exact refuse_ends ..
    · exact complete_ends ..

theorem execAlloc_ends (cfg : Config.Params) (a : Byte) (s : State) : EndsWithAnswer (execAlloc a s cfg) := by
  unfold execAlloc
  split
  · exact refuse_ends ..
  · split
    · exact complete_ends ..
    · exact refuse_ends ..

theorem execPercEnable_ends (cfg : Config.Params) (s : State) : EndsWithAnswer (execPercEnable s cfg) := by
  unfold execPercEnable
  split
  · exact refuse_ends ..
  · exact complete_ends ..

theorem execPercDisable_ends (cfg : Config.Params) (s : State) : EndsWithAnswer (execPercDisable s cfg) := by
  unfold execPercDisable
  split
  · exact refuse_ends ..
  · exact complete_ends ..

theorem execGetOpType_ends (cfg : Config.Params) (a b : Byte) (s : State) :
    EndsWithAnswer (execGetOpType a b s cfg) := by
  unfold execGetOpType
  split
  · exact refuse_ends ..
  · exact complete_ends ..

theorem execGetOpCount_ends (cfg : Config.Params) (a : Byte) (s : State) :
    EndsWithAnswer (execGetOpCount a s cfg) := by
  unfold execGetOpCount
  split
  · exact refuse_ends ..
  · exact complete_ends ..

/-- No command faults or is refused by the model, whatever the parameters. -/
theorem execWith_ends (cfg : Config.Params) (i : Instr) (s : State) : EndsWithAnswer (execWith cfg i s) := by
  cases i <;> simp only [execWith]
  case nop | service | init | detect => exact complete_ends ..
  case noteOn => exact execNoteOn_ends ..
  case noteOff => exact execNoteOff_ends ..
  case pitchBend => exact execPitchBend_ends ..
  case alloc => exact execAlloc_ends ..
  case percEnable => exact execPercEnable_ends ..
  case percDisable => exact execPercDisable_ends ..
  case getOpType => exact execGetOpType_ends ..
  case getOpCount => exact execGetOpCount_ends ..
  case ctrl => exact execCtrl_ends ..
  case ctrlProgram | ctrlVolume | ctrlAlgorithm | ctrlFeedback | ctrlOutput | ctrlLfoDelay | ctrlSustainPedal
    | ctrlAllSoundOff | ctrlAllNotesOff => exact ctrlCommand_ends ..
  case ctrlOpAttack | ctrlOpDecay | ctrlOpSustain | ctrlOpRelease | ctrlOpWaveform | ctrlOpLevel | ctrlOpKsl
    | ctrlOpMult | ctrlOpTremolo | ctrlOpVibrato | ctrlOpSusflag | ctrlOpEnvscale | ctrlOpVelsens =>
    exact opCtrl_ends ..
  case free | keyOn | keyOff | setFreq | setOutput | setFeedback | setAlgorithm | setOpAttack | setOpDecay
    | setOpSustain | setOpRelease | setOpWaveform | setOpAttenuation | setOpKsl | setOpMult | setOpTremolo
    | setOpVibrato | setOpSusflag | setOpEnvscale => exact withHandle_ends ..

/-- NOP, SERVICE, INIT and DETECT are carried out from every state (R272). -/
theorem execWith_carried_out {cfg : Config.Params} {i : Instr}
    (hi : i = .nop ∨ (∃ v, i = .service v) ∨ i = .init ∨ i = .detect) (s : State) :
    ∃ v u, execWith cfg i s = complete v u := by
  obtain rfl | ⟨v, rfl⟩ | rfl | rfl := hi <;> exact ⟨_, _, rfl⟩

/-- The code stands in bits 15:8 of `RESULT` (R45). -/
theorem resultWord_code (c : Code) (v : Byte) : (resultWord c v).extractLsb' 8 8 = c.byte :=
  BitVec.extractLsb'_append_eq_left

/-- The codes of the taxonomy are 0 to 5 (R271). -/
theorem code_byte_le (c : Code) : c.byte.toNat ≤ 5 := by cases c <;> decide

/-! ### `CMD` and the host's further acts are left alone (logs 5, 7) -/

/-- What the host has written to `CMD` and what it does next: no command's to change. -/
def hostSide (s : State) : Word × List HostInput := (s.cmd, s.inputs)

theorem hostSide_eq_iff {s t : State} : hostSide t = hostSide s ↔ t.cmd = s.cmd ∧ t.inputs = s.inputs := Prod.mk_inj

section Updates
variable (s : State)

@[simp] theorem hostSide_answer (c : Code) (v : Byte) : hostSide (s.answer c v) = hostSide s := rfl
@[simp] theorem hostSide_updChan (c : PhysId) (f : Chan → Chan) : hostSide (s.updChan c f) = hostSide s := rfl
@[simp] theorem hostSide_updOper (n : OperId) (f : Oper → Oper) : hostSide (s.updOper n f) = hostSide s := rfl
@[simp] theorem hostSide_updPatch (m : MidiId) (f : Patch → Patch) : hostSide (s.updPatch m f) = hostSide s := rfl
@[simp] theorem hostSide_updSlot (k : SlotId) (f : Slot → Slot) : hostSide (s.updSlot k f) = hostSide s := rfl
@[simp] theorem hostSide_setAllocd (h : Handle) (b : Bool) : hostSide (s.setAllocd h b) = hostSide s := rfl
@[simp] theorem hostSide_setFree2 (c : PhysId) (b : Bool) : hostSide (s.setFree2 c b) = hostSide s := rfl
@[simp] theorem hostSide_setFree4 (c : PhysId) (b : Bool) : hostSide (s.setFree4 c b) = hostSide s := rfl
@[simp] theorem hostSide_resetBlock (cfg : Config.Params) : hostSide (s.resetBlock cfg) = hostSide s := rfl

end Updates

section Bus
variable (cfg : Config.Params) (s : State)

@[simp] theorem hostSide_busWrite (addr : BitVec 16) (data : Byte) :
    hostSide (busWrite cfg addr data s) = hostSide s := by
  unfold busWrite chipWrite
  split_ifs <;> rfl

@[simp] theorem hostSide_busRead (addr : BitVec 16) : hostSide (busRead addr s).2 = hostSide s := by
  unfold busRead
  split <;> rfl

@[simp] theorem hostSide_regWriteAt (r : SetId × Byte) (v : Byte) : hostSide (regWriteAt cfg r v s) = hostSide s := by
  simp [regWriteAt, regWrite]

@[simp] theorem hostSide_w20 (n : OperId) : hostSide (w20 cfg n s) = hostSide s := hostSide_regWriteAt ..
@[simp] theorem hostSide_w40 (n : OperId) : hostSide (w40 cfg n s) = hostSide s := hostSide_regWriteAt ..
@[simp] theorem hostSide_w60 (n : OperId) : hostSide (w60 cfg n s) = hostSide s := hostSide_regWriteAt ..
@[simp] theorem hostSide_w80 (n : OperId) : hostSide (w80 cfg n s) = hostSide s := hostSide_regWriteAt ..
@[simp] theorem hostSide_wE0 (n : OperId) : hostSide (wE0 cfg n s) = hostSide s := hostSide_regWriteAt ..
@[simp] theorem hostSide_wA0 (c : PhysId) : hostSide (wA0 cfg c s) = hostSide s := hostSide_regWriteAt ..
@[simp] theorem hostSide_wB0 (c : PhysId) : hostSide (wB0 cfg c s) = hostSide s := hostSide_regWriteAt ..
@[simp] theorem hostSide_wC0 (c : PhysId) : hostSide (wC0 cfg c s) = hostSide s := hostSide_regWriteAt ..
@[simp] theorem hostSide_wBD : hostSide (wBD cfg s) = hostSide s := hostSide_regWriteAt ..
@[simp] theorem hostSide_w104 : hostSide (w104 cfg s) = hostSide s := hostSide_regWriteAt ..

theorem hostSide_foldl {α : Type} {f : State → α → State} (hf : ∀ t x, hostSide (f t x) = hostSide t) (l : List α) :
    hostSide (l.foldl f s) = hostSide s := by
  induction l generalizing s with
  | nil => rfl
  | cons x l ih => rw [List.foldl_cons, ih, hf]

end Bus

section Procedures
variable (cfg : Config.Params)

theorem hostSide_writeKey (on : Bool) (h : Handle) (s : State) : hostSide (writeKey cfg on h s) = hostSide s := by
  unfold writeKey
  split
  · simp
  · exact hostSide_wBD ..

theorem hostSide_freeHandle {h : Handle} {s t : State} (e : freeHandle h s = .ok t) : hostSide t = hostSide s := by
  rw [(freeHandle_ok_iff.1 e).2, State.freed]
  split <;> rfl

theorem hostSide_writeField (f : OpField) (n : OperId) (s : State) : hostSide (f.write cfg n s) = hostSide s := by
  cases f <;> simp [OpField.write]

theorem hostSide_initWrites (s : State) : hostSide (initWrites cfg s) = hostSide s := by
  have hops : ∀ u, hostSide (allOperators.foldl
      (fun t n => wE0 cfg n (w80 cfg n (w60 cfg n (w40 cfg n (w20 cfg n t))))) u) = hostSide u :=
    fun u => hostSide_foldl u (fun _ _ => by simp) _
  have hchans : ∀ u, hostSide (allChannels.foldl (fun t c => wC0 cfg c (wA0 cfg c (wB0 cfg c t))) u) = hostSide u :=
    fun u => hostSide_foldl u (fun _ _ => by simp) _
  have hprologue : hostSide (cfg.initPrologue.foldl (fun t w => regWriteAt cfg w.1 w.2 t) s) = hostSide s :=
    hostSide_foldl s (fun _ _ => by simp) _
  simp only [initWrites, hops, hchans, hostSide_wBD, hostSide_w104, hprologue]

variable {cfg} {s t : State} {h : Handle}

theorem hostSide_allocTwoOp (e : allocTwoOp cfg s = .ok (h, t)) : hostSide t = hostSide s := by
  unfold allocTwoOp at e
  split at e
  · cases e; simp
  · split at e
    · cases e
      simp only [hostSide_setFree2, hostSide_setAllocd, hostSide_w104]
      rfl
    · cases e

theorem hostSide_allocFourOp (e : allocFourOp cfg s = .ok (h, t)) : hostSide t = hostSide s := by
  unfold allocFourOp at e
  split at e
  · cases e; simp
  · split at e
    · cases e
      simp only [hostSide_setAllocd, hostSide_w104]
      rfl
    · cases e

theorem hostSide_allocRole {r : RoleId} (e : allocRole r s = .ok (h, t)) : hostSide t = hostSide s := by
  obtain ⟨-, -, -, rfl⟩ := allocRole_ok_iff.1 e
  simp

theorem hostSide_allocate {c : ChType} (e : allocate cfg c s = .ok (h, t)) : hostSide t = hostSide s := by
  cases c with
  | null => cases e
  | twoOp => exact hostSide_allocTwoOp e
  | fourOp => exact hostSide_allocFourOp e
  | kick | snare | tomTom | cymbal | hiHat => exact hostSide_allocRole e

end Procedures

section Kept
variable (cfg : Config.Params) (s : State)

/-- The host's side is still that of `s`. -/
def HostSideKept (t : State) : Prop := hostSide t = hostSide s

theorem keeps_hostSide : Keeps cfg (HostSideKept s) where
  answer _ _ _ hs := (hostSide_answer ..).trans hs
  patch _ _ _ hs := (hostSide_updPatch ..).trans hs
  slot _ _ _ hs := (hostSide_updSlot ..).trans hs
  draw _ hs := hs
  free _ _ _ hs e := (hostSide_freeHandle e).trans hs
  key _ _ _ hs := (hostSide_writeKey ..).trans hs
  freq _ _ _ hs := by simpa [HostSideKept, writeFreq] using hs
  field _ _ _ _ hs := (hostSide_writeField ..).trans hs
  lfo _ _ _ _ hs := (hostSide_w20 ..).trans hs
  program _ _ _ hs := by simpa [HostSideKept] using hs
  conn _ _ _ _ hs := (hostSide_wC0 ..).trans hs

theorem keepsAlloc_hostSide : KeepsAlloc cfg (HostSideKept s) := fun _ _ _ _ hs e => (hostSide_allocate e).trans hs

theorem keepsPerc_hostSide : KeepsPerc cfg (HostSideKept s) :=
  ⟨fun _ hs _ _ _ _ => (hostSide_wBD ..).trans hs, fun _ hs _ _ => (hostSide_wBD ..).trans hs⟩

theorem keepsInit_hostSide : KeepsInit cfg (HostSideKept s) :=
  fun _ hs => (hostSide_initWrites ..).trans ((hostSide_resetBlock ..).trans hs)

theorem keepsProbe_hostSide : KeepsProbe cfg (HostSideKept s) :=
  ⟨fun _ _ _ _ hs => (hostSide_regWriteAt ..).trans hs, fun _ hs => (hostSide_busRead ..).trans hs⟩

end Kept

theorem hostSide_execWith {cfg : Config.Params} {i : Instr} {s t : State} (h : execWith cfg i s = .next t) :
    hostSide t = hostSide s :=
  (keeps_hostSide cfg s).execWith (fun _ => keepsAlloc_hostSide cfg s) (fun _ => keepsPerc_hostSide cfg s)
    (fun _ => keepsInit_hostSide cfg s) (fun _ => keepsProbe_hostSide cfg s) rfl h

/-- Every command completes, under every record of parameters. -/
theorem execWith_completes (cfg : Config.Params) (i : Instr) (s : State) :
    ∃ t, execWith cfg i s = .next t ∧ t.busy = false ∧ (t.result.extractLsb' 8 8 : Byte).toNat ≤ 5
      ∧ t.cmd = s.cmd ∧ t.inputs = s.inputs
      ∧ (i = .nop ∨ (∃ v, i = .service v) ∨ i = .init ∨ i = .detect → (t.result.extractLsb' 8 8 : Byte) = 0) := by
  obtain ⟨u, c, v, hnext⟩ := execWith_ends cfg i s
  obtain ⟨hcmd, hinputs⟩ := hostSide_eq_iff.1 (hostSide_execWith hnext)
  refine ⟨u.answer c v, hnext, answer_busy .., ?_, hcmd, hinputs, fun hi => ?_⟩
  · rw [answer_result, resultWord_code]
    exact code_byte_le c
  · obtain ⟨v', u', hok⟩ := execWith_carried_out hi s
    have hsame : u.answer c v = u'.answer .ok v' := Host.Outcome.next.inj (hnext.symm.trans hok)
    rw [hsame, answer_result, resultWord_code]
    rfl

/-- Settles O9, from the same statement for every record of parameters, of which `exec` is the one at R8. -/
theorem everyCommandCompletes : Obligations.EveryCommandCompletes :=
  ⟨fun i s => exec_eq i s ▸ execWith_completes cvs i s, execWith_completes⟩

end Sys2Proof.Scope
end

section
/-! What one step can do, said once (R45, R283, R300, R301, R85). -/

namespace Sys2Proof.Steps

open Sys2Proof.Machine

/-- What a step can do: idle, accept a command word, take the reset event between commands, run a command, refuse a
reserved code, or take the reset event in the course of a command, whose full run would have ended in `u`. -/
inductive StepTo (s : State) : State → Prop
  | idle : StepTo s s
  | accept (w : Word) (rest : List HostInput) : StepTo s { s with cmd := w, busy := true, inputs := rest }
  | reset (n : Nat) (rest : List HostInput) :
      s.inputs = .reset n :: rest → StepTo s ({ s with inputs := rest }.resetBlock cvs)
  | command {i : Instr} {t : State} : exec i s = .next t → StepTo s t
  | reserved : StepTo s (s.answer .illegalCommand 0)
  | cut {u : State} (n : Nat) (rest : List HostInput) :
      s.inputs = .reset n :: rest → runCommand cvs exec { s with inputs := rest } = .next u →
      StepTo s ({ s with inputs := rest }.cutByReset cvs u n)

/-- The command in flight runs, or its reserved code is refused (R85). -/
theorem runCommand_cases {s t : State} (h : runCommand cvs exec s = .next t) :
    (∃ i, exec i s = .next t) ∨ t = s.answer .illegalCommand 0 := by
  simp only [runCommand] at h
  split at h
  · exact .inl ⟨_, h⟩
  · exact .inr (Host.Outcome.next.inj h).symm

theorem StepTo.of_runCommand {s t : State} (h : runCommand cvs exec s = .next t) : StepTo s t := by
  rcases runCommand_cases h with ⟨i, hi⟩ | rfl
  · exact .command hi
  · exact .reserved

/-- Every step is one of the six. -/
theorem stepTo_of_step {s t : State} (h : step s = .next t) : StepTo s t := by
  rw [step, stepBy] at h
  split at h
  · rename_i n rest _ hin
    simp only [resetInFlight] at h
    split at h
    · rename_i u hu
      exact Host.Outcome.next.inj h ▸ .cut n rest hin hu
    · cases h
    · cases h
  · exact .of_runCommand h
  · exact Host.Outcome.next.inj h ▸ .idle
  · exact Host.Outcome.next.inj h ▸ .accept _ _
  · rename_i n rest _ hin
    exact Host.Outcome.next.inj h ▸ .reset n rest hin

/-- Settles O7: with `busy` down the step is the host's next act, and nothing when there is none. -/
theorem stepTakesInput : Obligations.StepTakesInput := by
  refine ⟨fun s w rest hb hin => ?_, fun s hb hin => ?_⟩
  · simp only [step, stepBy, hb, hin]
  · simp only [step, stepBy, hb, hin]

end Sys2Proof.Steps
end

section
/-! What an allocation can do, said once (R122 to R125). -/

namespace Sys2Proof.Allocation

open Sys2Proof.Machine

/-- The FourOp channel of pair `j` in two: its primary is held, its secondary free (R123). -/
def splitBlock (s : State) (j : PairId) : State :=
  { s with
    ctype := (s.ctype.set cvs.pairs[j].1 .twoOp).set cvs.pairs[j].2 .twoOp
    fourOpMask := maskClear s.fourOpMask j
    allocd := s.allocd.set (physHandle cvs.pairs[j].1) true
    free4 := s.free4.set cvs.pairs[j].1 false
    free2 := s.free2.set cvs.pairs[j].2 true }

/-- The split of pair `j`, with its register write (R123). -/
def splitPair (s : State) (j : PairId) : State :=
  (splitBlock s j).sends [((1, 0x04), fourOpByte cvs (maskClear s.fourOpMask j))]

/-- The two halves of pair `j` as one FourOp channel, which is held (R124). -/
def mergeBlock (s : State) (j : PairId) : State :=
  { s with
    ctype := (s.ctype.set cvs.pairs[j].1 .fourOp).set cvs.pairs[j].2 .null
    fourOpMask := maskSet s.fourOpMask j
    allocd := s.allocd.set (physHandle cvs.pairs[j].1) true
    free2 := (s.free2.set cvs.pairs[j].1 false).set cvs.pairs[j].2 false }

/-- The merge of pair `j`, with its register write (R124). -/
def mergePair (s : State) (j : PairId) : State :=
  (mergeBlock s j).sends [((1, 0x04), fourOpByte cvs (maskSet s.fourOpMask j))]

/-- The ways in which a handle is given out, and the state after each. -/
inductive Allocated (s : State) : Handle → State → Prop
  | pool2 (c : PhysId) : s.free2[c] = true →
      Allocated s (physHandle c) ((s.setFree2 c false).setAllocd (physHandle c) true)
  | pool4 (c : PhysId) : s.free4[c] = true →
      Allocated s (physHandle c) ((s.setFree4 c false).setAllocd (physHandle c) true)
  | split (j : PairId) : s.free4[cvs.pairs[j].1] = true →
      Allocated s (physHandle cvs.pairs[j].1) (splitPair s j)
  | merge (j : PairId) : s.free2[cvs.pairs[j].1] = true → s.free2[cvs.pairs[j].2] = true →
      Allocated s (physHandle cvs.pairs[j].1) (mergePair s j)
  | role (r : RoleId) : s.percEnabled = true → s.allocd[roleHandle r] = false →
      Allocated s (roleHandle r) (s.setAllocd (roleHandle r) true)

theorem allocated_of_allocRole {r : RoleId} {s u : State} {h : Handle} (e : allocRole r s = .ok (h, u)) :
    Allocated s h u := by
  obtain ⟨hp, ha, rfl, rfl⟩ := allocRole_ok_iff.1 e
  exact .role r hp ha

/-- An allocation that succeeds is one of the five. -/
theorem allocated_of_allocate {t : ChType} {s u : State} {h : Handle} (e : allocate cvs t s = .ok (h, u)) :
    Allocated s h u := by
  cases t with
  | null => cases e
  | twoOp =>
    rcases allocTwoOp_ok e with ⟨c, hc, rfl, rfl⟩ | ⟨j, hj, -, rfl, rfl⟩
    · exact .pool2 c hc
    · simpa [splitPair, splitBlock, State.setAllocd, State.setFree2, State.setFree4, State.sends] using Allocated.split j hj
  | fourOp =>
    rcases allocFourOp_ok e with ⟨c, hc, rfl, rfl⟩ | ⟨j, hj, hj', -, rfl, rfl⟩
    · exact .pool4 c hc
    · simpa [mergePair, mergeBlock, State.setAllocd, State.setFree2, State.setFree4, State.sends] using Allocated.merge j hj hj'
  | kick | snare | tomTom | cymbal | hiHat => exact allocated_of_allocRole e

end Sys2Proof.Allocation
end

section
/-! The chip follows the trace (R31, R60, R63, R70). -/

namespace Sys2Proof.Trace

open Sys2Proof.Machine Sys2Proof.Steps Sys2Proof.Allocation

/-- What the bus has carried, and the chip's latches and registers. -/
def busSide (s : State) : List BusTx × Vector Byte 2 × List Host.Cell := (s.trace, s.latch, s.chipRegs)

/-- `t` is `s` after some transactions on the block's ports, as far as trace and chip go. -/
def Follows (s t : State) : Prop :=
  ∃ d : List BusTx, t.trace = s.trace ++ d ∧ (∀ x ∈ d, x.confined = true)
    ∧ (t.latch, t.chipRegs) = chipReplay d (s.latch, s.chipRegs)

theorem chipReplay_append (d e : List BusTx) (q : Vector Byte 2 × List Host.Cell) :
    chipReplay (d ++ e) q = chipReplay e (chipReplay d q) := by
  induction d generalizing q with
  | nil => rfl
  | cons x d ih => cases x <;> simp only [List.cons_append, chipReplay, ih]

theorem Follows.of_busSide_eq {s t : State} (h : busSide t = busSide s) : Follows s t := by
  obtain ⟨ht, hl, hr⟩ : t.trace = s.trace ∧ t.latch = s.latch ∧ t.chipRegs = s.chipRegs := by
    simpa only [busSide, Prod.mk.injEq] using h
  exact ⟨[], by simp [ht], by simp, by simp [chipReplay, hl, hr]⟩

theorem Follows.refl (s : State) : Follows s s := .of_busSide_eq rfl

theorem Follows.trans {s t u : State} (h : Follows s t) (h' : Follows t u) : Follows s u := by
  obtain ⟨d, hd, hc, hr⟩ := h
  obtain ⟨d', hd', hc', hr'⟩ := h'
  refine ⟨d ++ d', by rw [hd', hd, List.append_assoc], ?_, by rw [hr', hr, chipReplay_append]⟩
  exact fun x hx => (List.mem_append.1 hx).elim (hc x) (hc' x)

theorem follows_sends_one (s : State) (w : RegVal) : Follows s (s.sends [w]) := by
  obtain ⟨⟨x, reg⟩, val⟩ := w
  refine ⟨regTx (x, reg) val, by simp, ?_, ?_⟩
  · fin_cases x <;> simp [regTx, BusTx.confined]
  · fin_cases x <;> simp [regTx, State.sends, chipReplay]

/-- Register writes are transactions on the block's ports (R63). -/
theorem follows_sends (s : State) (ws : List RegVal) : Follows s (s.sends ws) := by
  induction ws generalizing s with
  | nil => simpa using Follows.refl s
  | cons w ws ih =>
    have hcons : s.sends (w :: ws) = (s.sends [w]).sends ws := by simp
    exact hcons ▸ (follows_sends_one s w).trans (ih _)

/-- A change of the block, then register writes. -/
theorem Follows.sends {s t u : State} (h : Follows s t) (hu : busSide u = busSide t) (ws : List RegVal) :
    Follows s (u.sends ws) := (h.trans (.of_busSide_eq hu)).trans (follows_sends u ws)

/-- A status read is a transaction on the first address port (R66). -/
theorem follows_busRead (s : State) : Follows s (busRead (aport cvs 0) s).2 := by
  simp only [busRead]
  split <;> exact ⟨[.read 0x388 _], rfl, by simp [BusTx.confined], rfl⟩

theorem busSide_freed (s : State) (h : Handle) : busSide (s.freed h) = busSide s := by
  simp only [State.freed]
  split <;> rfl

theorem keeps_follows (s : State) : Keeps cvs (Follows s) where
  answer _ _ _ hs := hs.trans (.of_busSide_eq rfl)
  patch _ _ _ hs := hs.trans (.of_busSide_eq rfl)
  slot _ _ _ hs := hs.trans (.of_busSide_eq rfl)
  draw _ hs := hs.trans (.of_busSide_eq rfl)
  free _ h _ hs e := (freeHandle_ok_iff.1 e).2 ▸ hs.trans (.of_busSide_eq (busSide_freed _ h))
  key t on h hs := by
    obtain ⟨c, rfl⟩ | ⟨r, rfl⟩ := handle_cases h
    · exact writeKey_phys t on c ▸ hs.sends rfl _
    · exact writeKey_role t on r ▸ hs.sends rfl _
  freq t c f hs := writeFreq_eq t c f ▸ hs.sends rfl _
  field t f n v hs := OpField.write_eq (t.updOper n (f.put v)) f n ▸ hs.sends rfl _
  lfo _ _ _ _ hs := w20_eq .. ▸ hs.sends rfl _
  program t n o hs := by
    simp only [w20_eq, w40_eq, w60_eq, w80_eq, wE0_eq, sends_sends]
    exact hs.sends rfl _
  conn _ _ _ _ hs := wC0_eq .. ▸ hs.sends rfl _

theorem keepsAlloc_follows (s : State) : KeepsAlloc cvs (Follows s) := by
  intro t _ h u hs e
  cases allocated_of_allocate e with
  | pool2 | pool4 | role => exact hs.trans (.of_busSide_eq rfl)
  | split | merge => exact hs.sends rfl _

theorem keepsPerc_follows (s : State) : KeepsPerc cvs (Follows s) :=
  ⟨fun _ hs _ _ _ _ => wBD_eq _ ▸ hs.sends rfl _, fun _ hs _ _ => wBD_eq _ ▸ hs.sends rfl _⟩

theorem follows_regWriteAt (s : State) (r : SetId × Byte) (val : Byte) : Follows s (regWriteAt cvs r val s) :=
  regWriteAt_eq s r val ▸ follows_sends s _

theorem follows_foldl {α : Type} {f : State → α → State} (hf : ∀ t x, Follows t (f t x)) (l : List α) (s : State) :
    Follows s (l.foldl f s) := by
  induction l generalizing s with
  | nil => exact .refl s
  | cons x l ih => exact (hf s x).trans (ih _)

theorem follows_initWrites (s : State) : Follows s (initWrites cvs s) := by
  have hprologue := follows_foldl (fun t (w : RegVal) => follows_regWriteAt t w.1 w.2) cvs.initPrologue s
  have hchan (t : State) (c : PhysId) : Follows t (wC0 cvs c (wA0 cvs c (wB0 cvs c t))) :=
    ((follows_regWriteAt t _ _).trans (follows_regWriteAt ..)).trans (follows_regWriteAt ..)
  have hoper (t : State) (n : OperId) : Follows t (wE0 cvs n (w80 cvs n (w60 cvs n (w40 cvs n (w20 cvs n t))))) :=
    ((((follows_regWriteAt t _ _).trans (follows_regWriteAt ..)).trans (follows_regWriteAt ..)).trans
      (follows_regWriteAt ..)).trans (follows_regWriteAt ..)
  rw [initWrites]
  exact (((hprologue.trans (follows_regWriteAt ..)).trans (follows_regWriteAt ..)).trans
    (follows_foldl hchan allChannels _)).trans (follows_foldl hoper allOperators _)

theorem keepsInit_follows (s : State) : KeepsInit cvs (Follows s) := fun u hs =>
  hs.trans ((Follows.of_busSide_eq (t := u.resetBlock cvs) rfl).trans (follows_initWrites _))

theorem keepsProbe_follows (s : State) : KeepsProbe cvs (Follows s) :=
  ⟨fun t r val _ hs => hs.trans (follows_regWriteAt t r val), fun t hs => hs.trans (follows_busRead t)⟩

/-- Every command's transactions are on the block's ports, and the chip is what they make of it. -/
theorem follows_exec {i : Instr} {s t : State} (h : exec i s = .next t) : Follows s t :=
  (keeps_follows s).exec (fun _ => keepsAlloc_follows s) (fun _ => keepsPerc_follows s) (fun _ => keepsInit_follows s)
    (fun _ => keepsProbe_follows s) (.refl s) h

theorem follows_runCommand {s t : State} (h : runCommand cvs exec s = .next t) : Follows s t := by
  rcases runCommand_cases h with ⟨i, hi⟩ | rfl
  · exact follows_exec hi
  · exact .of_busSide_eq rfl

/-- A confined transaction, seen from the environment, does in the chip what `chipReplay` says (R31, R62). -/
theorem apply_confined {x : BusTx} (hx : x.confined = true) (s : State) :
    (BusTx.apply cvs s x).trace = s.trace ++ [x]
      ∧ ((BusTx.apply cvs s x).latch, (BusTx.apply cvs s x).chipRegs) = chipReplay [x] (s.latch, s.chipRegs) := by
  cases x with
  | read a b => exact ⟨rfl, rfl⟩
  | write a b =>
    simp only [BusTx.confined, Bool.or_eq_true, beq_iff_eq] at hx
    obtain ((rfl | rfl) | rfl) | rfl := hx <;>
      simp [BusTx.apply, busWrite, chipWrite, chipReplay, aport_zero, aport_one, dport_zero, dport_one]

/-- Confined transactions, replayed on `s`, give a state that follows it by exactly these (R301). -/
theorem apply_all_confined {d : List BusTx} (hd : ∀ x ∈ d, x.confined = true) (s : State) :
    (d.foldl (BusTx.apply cvs) s).trace = s.trace ++ d
      ∧ ((d.foldl (BusTx.apply cvs) s).latch, (d.foldl (BusTx.apply cvs) s).chipRegs)
        = chipReplay d (s.latch, s.chipRegs) := by
  induction d generalizing s with
  | nil => simp [chipReplay]
  | cons x d ih =>
    obtain ⟨htrace, hchip⟩ := apply_confined (hd x List.mem_cons_self) s
    obtain ⟨ihtrace, ihchip⟩ := ih (fun y hy => hd y (List.mem_cons_of_mem _ hy)) (BusTx.apply cvs s x)
    rw [List.foldl_cons, ihtrace, ihchip, htrace, hchip, ← chipReplay_append]
    simp

/-- A command cut short by the reset event has made a first part of its transactions (R301). -/
theorem follows_cutByReset {s u : State} (h : Follows s u) (n : Nat) : Follows s (s.cutByReset cvs u n) := by
  obtain ⟨d, htrace, hconf, -⟩ := h
  have hsent : u.trace.drop s.trace.length = d := by simp [htrace]
  have hconf' : ∀ x ∈ d.take n, x.confined = true := fun x hx => hconf x (List.mem_of_mem_take hx)
  obtain ⟨ht, hc⟩ := apply_all_confined hconf' s
  refine ⟨d.take n, ?_, hconf', ?_⟩
  · simpa [State.cutByReset, hsent] using ht
  · simpa [State.cutByReset, hsent] using hc

theorem follows_step {s t : State} (h : step s = .next t) : Follows s t := by
  cases stepTo_of_step h with
  | idle | accept | reset | reserved => exact .of_busSide_eq rfl
  | command hi => exact follows_exec hi
  | cut n rest _ hu => exact follows_cutByReset (follows_runCommand hu) n

/-- Settles O11: every primitive of a command is a change of the block followed by register writes, and the reset event
replays a first part of a command's transactions. -/
theorem chipFollowsTrace : Obligations.ChipFollowsTrace := fun _ _ h => follows_step h

/-- What transactions make of the chip's register list keeps its canonical form. -/
theorem wf_chipReplay (d : List BusTx) (q : Vector Byte 2 × List Host.Cell) (h : Memory.wf q.2) :
    Memory.wf (chipReplay d q).2 := by
  induction d generalizing q with
  | nil => exact h
  | cons x d ih =>
    cases x with
    | read => exact ih q h
    | write a b =>
      refine ih _ ?_
      split_ifs
      · exact h
      · exact h
      · exact Memory.wf_write h ..
      · exact Memory.wf_write h ..
      · exact h

theorem wf_step {s t : State} (h : step s = .next t) (hwf : Memory.wf s.chipRegs) : Memory.wf t.chipRegs := by
  obtain ⟨d, -, -, hr⟩ := follows_step h
  have hregs : t.chipRegs = (chipReplay d (s.latch, s.chipRegs)).2 := congrArg Prod.snd hr
  exact hregs ▸ wf_chipReplay d _ hwf

end Sys2Proof.Trace
end

section
/-! Cache and chip (R30): each mirrored register apart, and what a command's primitives do to it. -/

namespace Sys2Proof.Cache

open Sys2Proof.Machine Sys2Proof.Steps Sys2Proof.Allocation

/-! ### The mirrored registers -/

/-- The chip registers that mirror a cached value (R30). -/
inductive Mirror where
  | flags (n : OperId) | level (n : OperId) | attackDecay (n : OperId) | sustainRelease (n : OperId) | wave (n : OperId)
  | fnumLow (c : PhysId) | keyBlock (c : PhysId) | output (c : PhysId)
  | percussion | fourOp

/-- The address of a mirrored register (R95, R105, R106). -/
def Mirror.reg : Mirror → SetId × Byte
  | .flags n => opReg n 0x20
  | .level n => opReg n 0x40
  | .attackDecay n => opReg n 0x60
  | .sustainRelease n => opReg n 0x80
  | .wave n => opReg n 0xE0
  | .fnumLow c => chReg c 0xA0
  | .keyBlock c => chReg c 0xB0
  | .output c => chReg c 0xC0
  | .percussion => (0, 0xBD)
  | .fourOp => (1, 0x04)

/-- The byte that the cache gives a mirrored register (R96 to R104). -/
def Mirror.byte (s : State) : Mirror → Byte
  | .flags n => s.oper[n].flagsByte cvs
  | .level n => s.oper[n].levelByte cvs
  | .attackDecay n => s.oper[n].attackDecayByte cvs
  | .sustainRelease n => s.oper[n].sustainReleaseByte cvs
  | .wave n => s.oper[n].waveByte cvs
  | .fnumLow c => s.chan[c].fnumLowByte cvs
  | .keyBlock c => s.chan[c].keyBlockByte cvs
  | .output c => s.chan[c].outputByte cvs
  | .percussion => percussionByte cvs s.percEnabled s.percKey
  | .fourOp => fourOpByte cvs s.fourOpMask

/-- The mirrored register at an address: the inverse of `Mirror.reg`. -/
def mirrorAt (r : SetId × Byte) : Mirror :=
  let low := r.2.toNat % 32
  let n : OperId := Fin.ofNat 36 (18 * r.1.val + low - 2 * (low / 8))
  let c : PhysId := Fin.ofNat 18 (9 * r.1.val + r.2.toNat % 16)
  match r.2.toNat / 16 with
  | 2 | 3 => .flags n
  | 4 | 5 => .level n
  | 6 | 7 => .attackDecay n
  | 8 | 9 => .sustainRelease n
  | 14 | 15 => .wave n
  | 10 => .fnumLow c
  | 11 => if r.2 = 0xBD then .percussion else .keyBlock c
  | 12 => .output c
  | _ => .fourOp

theorem mirrorAt_reg (x : Mirror) : mirrorAt x.reg = x := by
  cases x with
  | flags n | level n | attackDecay n | sustainRelease n | wave n => fin_cases n <;> rfl
  | fnumLow c | keyBlock c | output c => fin_cases c <;> rfl
  | percussion | fourOp => rfl

/-- No two mirrored registers share an address (R64). -/
theorem Mirror.reg_inj {x y : Mirror} : x.reg = y.reg ↔ x = y :=
  ⟨fun h => by rw [← mirrorAt_reg x, h, mirrorAt_reg], fun h => h ▸ rfl⟩

/-! ### Agreement of one register -/

/-- The chip holds the cached byte of register `x`. -/
def Agrees (x : Mirror) (s : State) : Prop := chipReg s x.reg = some (x.byte s)

theorem cacheAgrees_iff (s : State) : CacheAgrees s ↔ ∀ x, Agrees x s := by
  constructor
  · rintro ⟨hop, hch, hperc, hfour⟩ x
    cases x with
    | flags n => exact (hop n).1
    | level n => exact (hop n).2.1
    | attackDecay n => exact (hop n).2.2.1
    | sustainRelease n => exact (hop n).2.2.2.1
    | wave n => exact (hop n).2.2.2.2
    | fnumLow c => exact (hch c).1
    | keyBlock c => exact (hch c).2.1
    | output c => exact (hch c).2.2
    | percussion => exact hperc
    | fourOp => exact hfour
  · exact fun h => ⟨fun n => ⟨h (.flags n), h (.level n), h (.attackDecay n), h (.sustainRelease n), h (.wave n)⟩,
      fun c => ⟨h (.fnumLow c), h (.keyBlock c), h (.output c)⟩, h .percussion, h .fourOp⟩

/-- The register is written with its cached byte. -/
def Mirror.refresh (x : Mirror) (s : State) : State := s.sends [(x.reg, x.byte s)]

@[simp] theorem byte_refresh (x y : Mirror) (s : State) : x.byte (y.refresh s) = x.byte s := by cases x <;> rfl

/-- A register write with the cached byte makes its register agree and touches no other. -/
@[simp] theorem agrees_refresh (x y : Mirror) (s : State) : Agrees x (y.refresh s) ↔ x = y ∨ Agrees x s := by
  rw [Agrees, byte_refresh, Mirror.refresh, chipReg_sends]
  by_cases h : x = y
  · simp [h]
  · simp [h, Ne.symm h, Mirror.reg_inj, Agrees]

/-- A change that leaves the cached byte and the chip alone leaves the register agreeing. -/
theorem Agrees.of_same {x : Mirror} {s u : State} (h : Agrees x s) (hchip : u.chipRegs = s.chipRegs)
    (hbyte : x.byte u = x.byte s) : Agrees x u := by
  simp only [Agrees, chipReg, hchip, hbyte]
  exact h

/-! ### The register writes -/

theorem w20_refresh (n : OperId) (s : State) : w20 cvs n s = (Mirror.flags n).refresh s := w20_eq s n
theorem w40_refresh (n : OperId) (s : State) : w40 cvs n s = (Mirror.level n).refresh s := w40_eq s n
theorem w60_refresh (n : OperId) (s : State) : w60 cvs n s = (Mirror.attackDecay n).refresh s := w60_eq s n
theorem w80_refresh (n : OperId) (s : State) : w80 cvs n s = (Mirror.sustainRelease n).refresh s := w80_eq s n
theorem wE0_refresh (n : OperId) (s : State) : wE0 cvs n s = (Mirror.wave n).refresh s := wE0_eq s n
theorem wA0_refresh (c : PhysId) (s : State) : wA0 cvs c s = (Mirror.fnumLow c).refresh s := wA0_eq s c
theorem wB0_refresh (c : PhysId) (s : State) : wB0 cvs c s = (Mirror.keyBlock c).refresh s := wB0_eq s c
theorem wC0_refresh (c : PhysId) (s : State) : wC0 cvs c s = (Mirror.output c).refresh s := wC0_eq s c
theorem wBD_refresh (s : State) : wBD cvs s = Mirror.percussion.refresh s := wBD_eq s
theorem w104_refresh (s : State) : w104 cvs s = Mirror.fourOp.refresh s := w104_eq s

/-- The mirrored register that holds an operator field (R133 to R144). -/
def fieldMirror (f : OpField) (n : OperId) : Mirror :=
  match f with
  | .ar | .dr => .attackDecay n
  | .sl | .rr => .sustainRelease n
  | .ws => .wave n
  | .tl | .ksl => .level n
  | .mult | .trem | .vib | .sus | .ksr => .flags n

theorem write_refresh (f : OpField) (n : OperId) (s : State) : f.write cvs n s = (fieldMirror f n).refresh s := by
  rw [OpField.write_eq]
  cases f <;> rfl

/-! ### Which cached bytes a change leaves alone -/

/-- The mirrored registers of an operator. -/
def Mirror.isOper (n : OperId) : Mirror → Prop
  | .flags m | .level m | .attackDecay m | .sustainRelease m | .wave m => m = n
  | _ => False

/-- The mirrored registers of a channel. -/
def Mirror.isChan (c : PhysId) : Mirror → Prop
  | .fnumLow d | .keyBlock d | .output d => d = c
  | _ => False

theorem oper_updOper_of_ne {m n : OperId} (h : m ≠ n) (s : State) (f : Oper → Oper) :
    (s.updOper n f).oper[m] = s.oper[m] := by
  have : n.val ≠ m.val := fun e => h (Fin.ext e.symm)
  simp [this]

theorem chan_updChan_of_ne {d c : PhysId} (h : d ≠ c) (s : State) (f : Chan → Chan) :
    (s.updChan c f).chan[d] = s.chan[d] := by
  have : c.val ≠ d.val := fun e => h (Fin.ext e.symm)
  simp [this]

theorem byte_updOper {x : Mirror} {n : OperId} (h : ¬ x.isOper n) (s : State) (f : Oper → Oper) :
    x.byte (s.updOper n f) = x.byte s := by
  cases x with
  | flags | level | attackDecay | sustainRelease | wave => simp only [Mirror.byte, oper_updOper_of_ne h]
  | fnumLow | keyBlock | output | percussion | fourOp => rfl

theorem byte_updChan {x : Mirror} {c : PhysId} (h : ¬ x.isChan c) (s : State) (f : Chan → Chan) :
    x.byte (s.updChan c f) = x.byte s := by
  cases x with
  | fnumLow | keyBlock | output => simp only [Mirror.byte, chan_updChan_of_ne h]
  | flags | level | attackDecay | sustainRelease | wave | percussion | fourOp => rfl

/-- A new value of an operator field changes no byte but the one that holds the field. -/
theorem byte_updOper_put {x : Mirror} {f : OpField} {n : OperId} (h : x ≠ fieldMirror f n) (s : State) (v : Nat) :
    x.byte (s.updOper n (f.put v)) = x.byte s := by
  by_cases hx : x.isOper n
  · cases x with
    | flags | level | attackDecay | sustainRelease | wave =>
      obtain rfl := hx
      cases f <;> simp [fieldMirror, Mirror.byte, OpField.put, Oper.flagsByte, Oper.levelByte,
        Oper.attackDecayByte, Oper.sustainReleaseByte, Oper.waveByte] at h ⊢
    | fnumLow | keyBlock | output | percussion | fourOp => exact hx.elim
  · exact byte_updOper hx s _

/-- New modulation flags change no byte but the flags byte (R243). -/
theorem byte_updOper_flags {x : Mirror} {n : OperId} (h : x ≠ .flags n) (s : State) (a b : BitVec 1) :
    x.byte (s.updOper n (fun o => { o with trem := a, vib := b })) = x.byte s := by
  by_cases hx : x.isOper n
  · cases x with
    | flags => exact absurd (congrArg Mirror.flags hx) h
    | level | attackDecay | sustainRelease | wave =>
      obtain rfl := hx
      simp [Mirror.byte, Oper.levelByte, Oper.attackDecayByte, Oper.sustainReleaseByte, Oper.waveByte]
    | fnumLow | keyBlock | output | percussion | fourOp => exact hx.elim
  · exact byte_updOper hx s _

/-- A new key bit changes no byte but the key-and-block byte (R130). -/
theorem byte_updChan_key {x : Mirror} {c : PhysId} (h : x ≠ .keyBlock c) (s : State) (b : BitVec 1) :
    x.byte (s.updChan c (fun y => { y with keyOn := b })) = x.byte s := by
  by_cases hx : x.isChan c
  · cases x with
    | keyBlock => exact absurd (congrArg Mirror.keyBlock hx) h
    | fnumLow | output =>
      obtain rfl := hx
      simp [Mirror.byte, Chan.fnumLowByte, Chan.outputByte]
    | flags | level | attackDecay | sustainRelease | wave | percussion | fourOp => exact hx.elim
  · exact byte_updChan hx s _

/-- A new frequency leaves the output byte alone (R129). -/
theorem byte_updChan_freq {x : Mirror} {c : PhysId} (ha : x ≠ .fnumLow c) (hb : x ≠ .keyBlock c) (s : State)
    (fnum : BitVec 10) (block : BitVec 3) :
    x.byte (s.updChan c (fun y => { y with fnum := fnum, block := block })) = x.byte s := by
  by_cases hx : x.isChan c
  · cases x with
    | fnumLow => exact absurd (congrArg Mirror.fnumLow hx) ha
    | keyBlock => exact absurd (congrArg Mirror.keyBlock hx) hb
    | output =>
      obtain rfl := hx
      simp [Mirror.byte, Chan.outputByte]
    | flags | level | attackDecay | sustainRelease | wave | percussion | fourOp => exact hx.elim
  · exact byte_updChan hx s _

/-- A change of output, feedback and connection leaves the two frequency bytes alone (R145 to R147). -/
theorem byte_updChan_conn {x : Mirror} {c : PhysId} (h : x ≠ .output c) (s : State) {f : Chan → Chan}
    (hf : ∀ y : Chan, (f y).fnum = y.fnum ∧ (f y).block = y.block ∧ (f y).keyOn = y.keyOn) :
    x.byte (s.updChan c f) = x.byte s := by
  by_cases hx : x.isChan c
  · cases x with
    | output => exact absurd (congrArg Mirror.output hx) h
    | fnumLow | keyBlock =>
      obtain rfl := hx
      simp [Mirror.byte, Chan.fnumLowByte, Chan.keyBlockByte, hf]
    | flags | level | attackDecay | sustainRelease | wave | percussion | fourOp => exact hx.elim
  · exact byte_updChan hx s _

/-- The bytes depend on the cache alone. -/
theorem byte_congr {s u : State} (ho : u.oper = s.oper) (hc : u.chan = s.chan) (he : u.percEnabled = s.percEnabled)
    (hk : u.percKey = s.percKey) (hm : u.fourOpMask = s.fourOpMask) (x : Mirror) : x.byte u = x.byte s := by
  cases x <;> simp only [Mirror.byte, ho, hc, he, hk, hm]

/-- A new percussion mode or key changes no byte but that of 0:BD (R104). -/
theorem byte_of_percussion {x : Mirror} (h : x ≠ .percussion) {s u : State} (ho : u.oper = s.oper) (hc : u.chan = s.chan)
    (hm : u.fourOpMask = s.fourOpMask) : x.byte u = x.byte s := by
  cases x with
  | percussion => exact absurd rfl h
  | flags | level | attackDecay | sustainRelease | wave | fnumLow | keyBlock | output | fourOp =>
    simp only [Mirror.byte, ho, hc, hm]

/-- A new 4-op mask changes no byte but that of 1:04 (R104). -/
theorem byte_of_mask {x : Mirror} (h : x ≠ .fourOp) {s u : State} (ho : u.oper = s.oper) (hc : u.chan = s.chan)
    (he : u.percEnabled = s.percEnabled) (hk : u.percKey = s.percKey) : x.byte u = x.byte s := by
  cases x with
  | fourOp => exact absurd rfl h
  | flags | level | attackDecay | sustainRelease | wave | fnumLow | keyBlock | output | percussion =>
    simp only [Mirror.byte, ho, hc, he, hk]

/-! ### What a command keeps -/

/-- Every mirrored register agrees. -/
def AllAgree (s : State) : Prop := ∀ x, Agrees x s

theorem AllAgree.of_cache_eq {s u : State} (h : AllAgree s) (hchip : u.chipRegs = s.chipRegs) (ho : u.oper = s.oper)
    (hc : u.chan = s.chan) (he : u.percEnabled = s.percEnabled) (hk : u.percKey = s.percKey)
    (hm : u.fourOpMask = s.fourOpMask) : AllAgree u :=
  fun x => (h x).of_same hchip (byte_congr ho hc he hk hm x)

/-- A change that shows in one register only, then the write of that register. -/
theorem AllAgree.refresh {s u : State} (h : AllAgree s) (hchip : u.chipRegs = s.chipRegs) {y : Mirror}
    (hbyte : ∀ x, x ≠ y → x.byte u = x.byte s) : AllAgree (y.refresh u) := by
  intro x
  rw [agrees_refresh, or_iff_not_imp_left]
  exact fun hne => (h x).of_same hchip (hbyte x hne)

theorem keeps_allAgree : Keeps cvs AllAgree where
  answer _ _ _ hs := hs.of_cache_eq rfl rfl rfl rfl rfl rfl
  patch _ _ _ hs := hs.of_cache_eq rfl rfl rfl rfl rfl rfl
  slot _ _ _ hs := hs.of_cache_eq rfl rfl rfl rfl rfl rfl
  draw _ hs := hs.of_cache_eq rfl rfl rfl rfl rfl rfl
  free s h _ hs e := by
    obtain ⟨-, rfl⟩ := freeHandle_ok_iff.1 e
    simp only [State.freed]
    split <;> exact hs.of_cache_eq rfl rfl rfl rfl rfl rfl
  key s on h hs := by
    simp only [writeKey]
    split
    · rw [wB0_refresh]
      exact hs.refresh (updChan_chipRegs ..) fun x hx => byte_updChan_key hx s _
    · rw [wBD_refresh]
      refine hs.refresh ?_ fun x hx => byte_of_percussion hx ?_ ?_ ?_
      all_goals rfl
  freq s c f hs := by
    rw [writeFreq, wB0_refresh, wA0_refresh]
    generalize BitVec.ofNat 10 (freqNumber cvs f) = fnum, BitVec.ofNat 3 (freqBlock cvs f) = block
    intro x
    rw [agrees_refresh, agrees_refresh, or_iff_not_imp_left, or_iff_not_imp_left]
    exact fun hb ha => (hs x).of_same (updChan_chipRegs ..) (byte_updChan_freq ha hb s fnum block)
  field s f n v hs := by
    rw [write_refresh]
    exact hs.refresh (updOper_chipRegs ..) fun x hx => byte_updOper_put hx s v
  lfo s n a b hs := by
    rw [w20_refresh]
    exact hs.refresh (updOper_chipRegs ..) fun x hx => byte_updOper_flags hx s a b
  program s n o hs := by
    intro x
    simp only [w20_refresh, w40_refresh, w60_refresh, w80_refresh, wE0_refresh, agrees_refresh]
    by_cases hx : x.isOper n
    · cases x with
      | flags | level | attackDecay | sustainRelease | wave => obtain rfl := hx; simp
      | fnumLow | keyBlock | output | percussion | fourOp => exact hx.elim
    · exact .inr (.inr (.inr (.inr (.inr ((hs x).of_same rfl (byte_updOper hx s _))))))
  conn s c f hf hs := by
    rw [wC0_refresh]
    exact hs.refresh (updChan_chipRegs ..) fun x hx => byte_updChan_conn hx s hf

theorem keepsAlloc_allAgree : KeepsAlloc cvs AllAgree := by
  intro s _ h u hs e
  cases allocated_of_allocate e with
  | pool2 | pool4 | role => exact hs.of_cache_eq rfl rfl rfl rfl rfl rfl
  | split | merge =>
    refine hs.refresh (y := .fourOp) ?_ fun x hx => byte_of_mask hx ?_ ?_ ?_ ?_
    all_goals rfl

theorem keepsPerc_allAgree : KeepsPerc cvs AllAgree := by
  refine ⟨fun s hs _ _ _ _ => ?_, fun s hs _ _ => ?_⟩
  all_goals
    rw [wBD_refresh]
    refine hs.refresh ?_ fun x hx => byte_of_percussion hx ?_ ?_ ?_
    all_goals rfl

/-- The timer registers of DETECT are no mirrored registers (R64, R104). -/
theorem Mirror.reg_ne_timer (x : Mirror) {r : SetId × Byte} (hr : r = cvs.regs.timer1 ∨ r = cvs.regs.timerControl) :
    r ≠ x.reg := by
  rintro rfl
  have hx := mirrorAt_reg x
  rcases hr with hr | hr
  all_goals
    rw [hr] at hx
    have hfour : x = .fourOp := hx.symm
    subst hfour
    exact absurd hr (by decide)

theorem keepsProbe_allAgree : KeepsProbe cvs AllAgree := by
  refine ⟨fun s r val hr hs x => ?_, fun s hs => ?_⟩
  · rw [regWriteAt_eq]
    have hread : chipReg (s.sends [(r, val)]) x.reg = chipReg s x.reg := by
      rw [chipReg_sends]
      simp [x.reg_ne_timer hr]
    have hbyte : x.byte (s.sends [(r, val)]) = x.byte s := byte_congr rfl rfl rfl rfl rfl x
    rw [Agrees, hread, hbyte]
    exact hs x
  · simp only [busRead]
    split <;> exact hs.of_cache_eq rfl rfl rfl rfl rfl rfl

/-! ### INIT writes every mirrored register -/

section Fold
variable {α : Type} {f : State → α → State} {x : Mirror}

theorem agrees_foldl (hkeep : ∀ t a, Agrees x t → Agrees x (f t a)) (l : List α) {s : State} (hs : Agrees x s) :
    Agrees x (l.foldl f s) := by
  induction l generalizing s with
  | nil => exact hs
  | cons b l ih => exact ih (hkeep s b hs)

/-- A fold of which one element writes the register leaves it agreeing. -/
theorem agrees_foldl_of_mem (hkeep : ∀ t a, Agrees x t → Agrees x (f t a)) {a : α} (hwrite : ∀ t, Agrees x (f t a))
    {l : List α} (ha : a ∈ l) (s : State) : Agrees x (l.foldl f s) := by
  obtain ⟨l₁, l₂, rfl⟩ := List.append_of_mem ha
  rw [List.foldl_append, List.foldl_cons]
  exact agrees_foldl hkeep l₂ (hwrite _)

end Fold

theorem mem_allOperators (n : OperId) : n ∈ allOperators := by revert n; decide

theorem mem_allChannels (c : PhysId) : c ∈ allChannels := by revert c; decide

/-- INIT's writes leave every mirrored register agreeing, from any state (R261). -/
theorem allAgree_initWrites (s : State) : AllAgree (initWrites cvs s) := by
  intro x
  have hoper (t : State) (n : OperId) : Agrees x t →
      Agrees x (wE0 cvs n (w80 cvs n (w60 cvs n (w40 cvs n (w20 cvs n t))))) := by
    simp only [w20_refresh, w40_refresh, w60_refresh, w80_refresh, wE0_refresh, agrees_refresh]
    exact fun h => .inr (.inr (.inr (.inr (.inr h))))
  have hchan (t : State) (c : PhysId) : Agrees x t → Agrees x (wC0 cvs c (wA0 cvs c (wB0 cvs c t))) := by
    simp only [wA0_refresh, wB0_refresh, wC0_refresh, agrees_refresh]
    exact fun h => .inr (.inr (.inr h))
  rw [initWrites]
  cases x with
  | flags n | level n | attackDecay n | sustainRelease n | wave n =>
    refine agrees_foldl_of_mem hoper (a := n) (fun t => ?_) (mem_allOperators n) _
    simp [w20_refresh, w40_refresh, w60_refresh, w80_refresh, wE0_refresh, -w20_eq, -w40_eq, -w60_eq, -w80_eq, -wE0_eq]
  | fnumLow c | keyBlock c | output c =>
    refine agrees_foldl hoper _ (agrees_foldl_of_mem hchan (a := c) (fun t => ?_) (mem_allChannels c) _)
    simp [wA0_refresh, wB0_refresh, wC0_refresh, -wA0_eq, -wB0_eq, -wC0_eq]
  | percussion | fourOp =>
    refine agrees_foldl hoper _ (agrees_foldl hchan _ ?_)
    simp [wBD_refresh, w104_refresh, -wBD_eq, -w104_eq]

theorem keepsInit_allAgree : KeepsInit cvs AllAgree := fun _ _ => allAgree_initWrites _

theorem allAgree_exec {i : Instr} {s t : State} (hs : AllAgree s) (h : exec i s = .next t) : AllAgree t :=
  keeps_allAgree.exec (fun _ => keepsAlloc_allAgree) (fun _ => keepsPerc_allAgree) (fun _ => keepsInit_allAgree)
    (fun _ => keepsProbe_allAgree) hs h

/-- Settles O17: each primitive of a command writes the registers whose bytes it changes. -/
theorem cacheAgreementKept : Obligations.CacheAgreementKept := by
  intro s t hs hin hstep
  have hall : AllAgree s := (cacheAgrees_iff s).1 hs
  refine (cacheAgrees_iff t).2 ?_
  cases stepTo_of_step hstep with
  | idle => exact hall
  | accept | reserved => exact hall.of_cache_eq rfl rfl rfl rfl rfl rfl
  | command hi => exact allAgree_exec hall hi
  | reset n rest h | cut n rest h => exact absurd h (hin n rest)

/-- Settles O16: INIT's writes leave every mirrored register with its cached byte. -/
theorem initEstablishesCache : Obligations.InitEstablishesCache := fun s =>
  ⟨(initWrites cvs (s.resetBlock cvs)).answer .ok 0, rfl,
    (cacheAgrees_iff _).2 (keeps_allAgree.answer _ _ _ (allAgree_initWrites _))⟩

end Sys2Proof.Cache
end

section
/-! What a command can do to the block outside the register cache, said once: a command is a run of `Move`s, each of
which only some commands can make (R27, R40, R150, R171, R181). -/

namespace Sys2Proof.CommandMoves

open Sys2Proof.Machine Sys2Proof.Steps Sys2Proof.Allocation

/-! ### The frame: all that the register writes and the register cache leave alone -/

/-- The allocator's state, the patches, the slots and the bytes still to be read. -/
structure Frame where
  ctype : Vector PhysType 18
  allocd : Vector Bool 23
  free2 : Vector Bool 18
  free4 : Vector Bool 18
  percEnabled : Bool
  fourOpMask : BitVec 6
  patch : Vector Patch 16
  slot : Vector Slot 23
  reads : List Byte

def frame (s : State) : Frame :=
  { ctype := s.ctype, allocd := s.allocd, free2 := s.free2, free4 := s.free4, percEnabled := s.percEnabled
    fourOpMask := s.fourOpMask, patch := s.patch, slot := s.slot, reads := s.reads }

@[simp] theorem frame_answer (s : State) (c : Code) (v : Byte) : frame (s.answer c v) = frame s := rfl
@[simp] theorem frame_sends (s : State) (ws : List RegVal) : frame (s.sends ws) = frame s := rfl
@[simp] theorem frame_updChan (s : State) (c : PhysId) (f : Chan → Chan) : frame (s.updChan c f) = frame s := rfl
@[simp] theorem frame_updOper (s : State) (n : OperId) (f : Oper → Oper) : frame (s.updOper n f) = frame s := rfl
@[simp] theorem frame_connect (s : State) (cs : List PhysId) (f : Chan → Chan) : frame (s.connect cs f) = frame s := rfl

section Procedures
variable {s t : State} {h : Handle}

theorem frame_writeKey (on : Bool) (h : Handle) (s : State) : frame (writeKey cvs on h s) = frame s := by
  obtain ⟨c, rfl⟩ | ⟨r, rfl⟩ := handle_cases h
  · simp [writeKey_phys]
  · rw [writeKey_role]; rfl

theorem frame_setKey {on : Bool} (e : setKey cvs on h s = .ok t) : frame t = frame s :=
  (setKey_ok_iff.1 e).2 ▸ frame_writeKey on h s

theorem frame_setFreq {f : Nat} (e : setFreq cvs h f s = .ok t) : frame t = frame s := by
  obtain ⟨-, rfl⟩ := setFreq_ok_iff.1 e
  simp [writeFreq_eq]

theorem frame_setOp {f : OpField} {i v : Nat} (e : setOp cvs f h i v s = .ok t) : frame t = frame s := by
  obtain ⟨-, -, n, -, rfl⟩ := setOp_ok_iff.1 e
  simp

theorem frame_setOutput {v : Nat} (e : setOutput cvs h v s = .ok t) : frame t = frame s := by
  obtain ⟨-, -, rfl⟩ := setOutput_ok_iff.1 e
  simp

theorem frame_setFeedback {v : Nat} (e : setFeedback cvs h v s = .ok t) : frame t = frame s := by
  obtain ⟨-, -, -, rfl⟩ := setFeedback_ok_iff.1 e
  simp

theorem frame_setAlgorithm {v : Nat} (e : setAlgorithm cvs h v s = .ok t) : frame t = frame s := by
  obtain ⟨-, ⟨-, -, rfl⟩ | ⟨-, -, rfl⟩⟩ := setAlgorithm_ok e <;> simp

/-- A procedure call inside a voice-manager command keeps what the procedure keeps. -/
theorem frame_attempt {p : State → Except Code State} (hp : ∀ u, p s = .ok u → frame u = frame s) :
    frame (attempt p s) = frame s := by
  rcases attempt_cases (p := p) s with h | h
  · exact hp _ h
  · rw [h]

theorem frame_forOpIndices {body : Fin 4 → State → State} (hb : ∀ i u, frame (body i u) = frame u) (s : State) :
    frame (forOpIndices cvs h body s) = frame s :=
  forOp_induct (P := fun u => frame u = frame s) (fun i u hu => (hb i u).trans hu) rfl

theorem frame_setAtten (k : SlotId) (h : Handle) (i : Fin 4) (s : State) : frame (setAtten cvs k h i s) = frame s :=
  frame_attempt fun _ e => frame_setOp e

theorem frame_programChannel (h : Handle) (P : Patch) (s : State) : frame (programChannel cvs h P s) = frame s := by
  simp only [programChannel]
  split <;> simp

theorem frame_programOperator (k : SlotId) (h : Handle) (i : Fin 4) (s : State) :
    frame (programOperator cvs k h i s) = frame s := by
  simp only [programOperator]
  split <;> simp

theorem frame_applyLfo (k : SlotId) (h : Handle) (i : Fin 4) (s : State) : frame (applyLfo cvs k h i s) = frame s := by
  simp only [applyLfo]
  split
  · split <;> simp
  · rfl

theorem frame_slowestRate (h : Handle) (s : State) : frame (slowestRate cvs h s).2 = frame s := by
  simp only [slowestRate]
  split <;> rfl

theorem frame_opApply (how : OpApply) (i : Fin 4) (v : Nat) (k : SlotId) (h : Handle) (s : State) :
    frame (how.run cvs i v k h s) = frame s := by
  simp only [OpApply.run]
  split
  · cases how with
    | setter f => exact frame_attempt fun _ e => frame_setOp e
    | attenuation => exact frame_setAtten ..
    | gated f =>
      dsimp only
      split
      · exact frame_attempt fun _ e => frame_setOp e
      · rfl
  · rfl

theorem frame_foldl {α : Type} {f : State → α → State} (hf : ∀ t x, frame (f t x) = frame t) (l : List α) (s : State) :
    frame (l.foldl f s) = frame s := by
  induction l generalizing s with
  | nil => rfl
  | cons x l ih => rw [List.foldl_cons, ih, hf]

theorem frame_regWriteAt (r : SetId × Byte) (v : Byte) (s : State) : frame (regWriteAt cvs r v s) = frame s := by
  simp [regWriteAt_eq]

theorem frame_initWrites (s : State) : frame (initWrites cvs s) = frame s := by
  have hprologue := frame_foldl (fun t (w : RegVal) => frame_regWriteAt w.1 w.2 t) cvs.initPrologue s
  have hchan := frame_foldl (f := fun t c => wC0 cvs c (wA0 cvs c (wB0 cvs c t))) (fun _ _ => by simp) allChannels
  have hoper := frame_foldl (f := fun t n => wE0 cvs n (w80 cvs n (w60 cvs n (w40 cvs n (w20 cvs n t)))))
    (fun _ _ => by simp) allOperators
  rw [initWrites, hoper, hchan, wBD_eq, frame_sends, w104_eq, frame_sends, hprologue]

/-- A status read changes only the bytes still to be read (R66). -/
theorem frame_busRead (a : BitVec 16) (s : State) :
    frame (busRead a s).2 = { frame s with reads := (busRead a s).2.reads } := by
  simp only [busRead]
  split <;> rfl

end Procedures

/-! ### The moves -/

/-- A bound slot's new contents on the same handle: it does not come back from Releasing, and release time is counted
only there (R171, R244). -/
def SameVoice (x y : Slot) : Prop :=
  y.lchan = x.lchan ∧ (y.releasing = false → x.releasing = false ∧ y.releaseDuration = x.releaseDuration)

/-- A slot newly bound to a handle, not Releasing and without release time (R172). -/
def BoundTo (h : Handle) (x : Slot) : Prop := x.lchan = some h ∧ x.releasing = false ∧ x.releaseDuration = 0

/-- A command that silences voices and gives back their handles: PROGRAM, ALL_SOUND_OFF, SERVICE (R176). -/
def silences (i : Instr) : Bool := isVoiceManager i && movesHandles i

def isNoteOn : Instr → Bool
  | .noteOn .. => true
  | _ => false

/-- One thing that command `i` may do. -/
inductive Move (i : Instr) : State → State → Prop
  /-- Anything in the register cache, on the bus and in the answer. -/
  | registers {s t : State} : frame t = frame s → Move i s t
  | voice {s : State} {k : SlotId} {f : Slot → Slot} : isVoiceManager i = true → s.slot[k].lchan ≠ none →
      SameVoice s.slot[k] (f s.slot[k]) → Move i s (s.updSlot k f)
  | patch {s : State} {m : MidiId} {f : Patch → Patch} : writesPatches i = true →
      (patchLegal s.patch[m] → patchLegal (f s.patch[m])) → Move i s (s.updPatch m f)
  | silence {s : State} {k : SlotId} {h : Handle} : silences i = true → s.slot[k].lchan = some h →
      Move i s (s.silenced k h)
  | free {s : State} {a : Byte} {h : Handle} : i = .free a → s.allocd[h] = true → Move i s (s.freed h)
  | alloc {s u : State} {a : Byte} {h : Handle} : i = .alloc a → Allocated s h u → Move i s u
  | steal {s : State} {v : SlotId} {h : Handle} : isNoteOn i = true → s.slot[v].lchan = some h → Move i s (s.stolen v h)
  | start {s u : State} {k : SlotId} {h : Handle} {x : Slot} : isNoteOn i = true → s.slot[k].lchan = none →
      Allocated s h u → BoundTo h x → Move i s (u.updSlot k (fun _ => x))
  | percOn {s : State} : i = .percEnable → s.percEnabled = false → s.free2[6] = true → s.free2[7] = true →
      s.free2[8] = true → Move i s { ((s.setFree2 6 false).setFree2 7 false).setFree2 8 false with percEnabled := true }
  | percOff {s : State} : i = .percDisable → s.percEnabled = true →
      Move i s (((State.setFree2 { s with percEnabled := false } 6 true).setFree2 7 true).setFree2 8 true)
  | init {s : State} : i = .init → Move i s (s.resetBlock cvs)
  | probe {s t : State} : i = .detect → frame t = { frame s with reads := t.reads } → Move i s t

/-- A run of moves of command `i`. -/
abbrev Moves (i : Instr) : State → State → Prop := Relation.ReflTransGen (Move i)

section Runs
variable {i : Instr} {s t u : State}

theorem Moves.same (h : Moves i s t) (e : frame u = frame t) : Moves i s u := h.tail (.registers e)

theorem Moves.of_frame (e : frame t = frame s) : Moves i s t := Moves.same .refl e

theorem Moves.complete {v : Byte} (h : Moves i s u) (e : Machine.complete v u = .next t) : Moves i s t :=
  Host.Outcome.next.inj e ▸ h.same rfl

theorem Moves.refuse {c : Code} {v : Byte} (h : Moves i s u) (e : Machine.refuse c v u = .next t) : Moves i s t :=
  Host.Outcome.next.inj e ▸ h.same rfl

theorem moves_withHandle {n : Nat} {p : Handle → State → Except Code State}
    (hp : ∀ h u, p h s = .ok u → Moves i s u) (e : withHandle n p s = .next t) : Moves i s t := by
  simp only [withHandle] at e
  split at e
  · exact Moves.refuse .refl e
  · rename_i h _
    cases hu : p h s with
    | ok u => exact (hp h u hu).complete (by simpa [replyBool, hu] using e)
    | error c => exact Moves.refuse .refl (by simpa [replyBool, hu] using e)

theorem moves_ctrlCommand {a c : Byte} {body : MidiId → BitVec 7 → State → Except Code State}
    (hb : ∀ m v u, body m v s = .ok u → Moves i s u) (e : ctrlCommand a c body s = .next t) : Moves i s t := by
  simp only [ctrlCommand] at e
  split at e
  · split at e
    · rename_i hu
      exact (hb _ _ _ hu).complete e
    · exact Moves.refuse .refl e
  · exact Moves.refuse .refl e

/-- A visit to every selected voice is a run of moves when each visit is (R170). -/
theorem Moves.visit {sel : Slot → Bool} {body : SlotId → Handle → State → State × Nat}
    (hb : ∀ k h t, Moves i s t → t.slot[k].lchan = some h → Moves i s (body k h t).1) (h : Moves i s u) :
    Moves i s (visitVoices sel body u).1 :=
  visit_induct (P := Moves i s) (fun k h t ht hk _ => hb k h t ht hk) h

/-- The same where a visit stays within the register cache. -/
theorem Moves.forVoices {m : MidiId} {body : SlotId → Handle → State → State}
    (hb : ∀ k h t, frame (body k h t) = frame t) (h : Moves i s u) : Moves i s (Machine.forVoices m body u) :=
  h.visit fun k g t ht _ => ht.same (hb k g t)

/-! ### The procedures of the voice manager -/

/-- A run of moves that has come to the voice in slot `k` on handle `h`. -/
def AtVoice (i : Instr) (s : State) (k : SlotId) (h : Handle) (t : State) : Prop :=
  Moves i s t ∧ t.slot[k].lchan = some h

variable {k : SlotId} {h : Handle}

theorem AtVoice.same (ht : AtVoice i s k h t) (e : frame u = frame t) : AtVoice i s k h u := by
  have hslot : u.slot = t.slot := congrArg Frame.slot e
  exact ⟨ht.1.same e, hslot ▸ ht.2⟩

theorem AtVoice.voice (ht : AtVoice i s k h t) (hv : isVoiceManager i = true) {f : Slot → Slot}
    (hf : SameVoice t.slot[k] (f t.slot[k])) : AtVoice i s k h (t.updSlot k f) := by
  obtain ⟨hmoves, hbound⟩ := ht
  refine ⟨hmoves.tail (.voice hv (by rw [hbound]; exact Option.some_ne_none h) hf), ?_⟩
  have hsame : (f t.slot[k]).lchan = some h := hf.1.trans hbound
  simpa using hsame

theorem AtVoice.release (ht : AtVoice i s k h t) (hv : isVoiceManager i = true) :
    Moves i s (releaseVoice cvs k h t) :=
  ((ht.same (frame_attempt fun _ e => frame_setKey e)).voice hv ⟨rfl, fun hr => by cases hr⟩).1

theorem AtVoice.stop (ht : AtVoice i s k h t) (hv : isVoiceManager i = true) : Moves i s (stopVoice cvs k h t) := by
  simp only [stopVoice]
  split
  · exact (ht.voice hv ⟨rfl, fun hr => ⟨hr, rfl⟩⟩).1
  · exact ht.release hv

theorem AtVoice.silence (ht : AtVoice i s k h t) (hs : silences i = true) : Moves i s (forceSilence cvs k h t) :=
  forceSilence_eq k h t ▸ ht.1.tail (.silence hs ht.2)

theorem AtVoice.advance (ht : AtVoice i s k h t) (hv : isVoiceManager i = true) (d : BitVec 16) :
    AtVoice i s k h (advanceDuration cvs d k t) := ht.voice hv ⟨rfl, fun hr => ⟨hr, rfl⟩⟩

theorem AtVoice.startLfo (ht : AtVoice i s k h t) (hv : isVoiceManager i = true) :
    AtVoice i s k h (startLfo cvs k h t) := by
  simp only [Machine.startLfo]
  split
  · exact (ht.same (frame_forOpIndices (frame_applyLfo k h) t)).voice hv ⟨rfl, fun hr => ⟨hr, rfl⟩⟩
  · exact ht

theorem AtVoice.releaseTimer (ht : AtVoice i s k h t) (hs : silences i = true) (hv : isVoiceManager i = true)
    (d : BitVec 16) : Moves i s (releaseTimer cvs d k h t).1 := by
  simp only [Machine.releaseTimer]
  split
  · rename_i hrel
    have hcount := ht.voice hv (f := fun x => { x with releaseDuration := satAdd cvs x.releaseDuration d })
      ⟨rfl, fun hr => absurd hrel (Bool.eq_false_iff.1 hr)⟩
    have hrate := hcount.same (frame_slowestRate h _)
    split
    · exact hrate.silence hs
    · exact hrate.1
  · exact ht.1

theorem AtVoice.service (ht : AtVoice i s k h t) (hs : silences i = true) (hv : isVoiceManager i = true)
    (d : BitVec 16) : Moves i s (serviceVoice cvs d k h t).1 :=
  ((ht.advance hv d).startLfo hv).releaseTimer hs hv d

/-! ### NOTE_ON -/

/-- Steps (4) to (8) of NOTE_ON bind the slot; the rest stays within the register cache (R172). -/
theorem frame_startVoice (k : SlotId) (m : MidiId) (note vel : BitVec 7) (h : Handle) (s : State) :
    frame (startVoice cvs k m note vel h s) = frame (s.updSlot k (fun _ => boundSlot m note vel h)) := by
  simp only [startVoice]
  rw [frame_attempt fun _ e => frame_setKey e, frame_attempt fun _ e => frame_setFreq e,
    frame_forOpIndices (frame_programOperator k h), frame_programChannel]

theorem boundTo_boundSlot (m : MidiId) (note vel : BitVec 7) (h : Handle) : BoundTo h (boundSlot m note vel h) :=
  ⟨rfl, rfl, rfl⟩

theorem stealVoice_eq {v : SlotId} {s : State} {h : Handle} (hv : s.slot[v].lchan = some h) :
    stealVoice v s = s.stolen v h := by
  have hfree : attempt (freeHandle h) s = if s.allocd[h] = true then s.freed h else s := by
    by_cases ha : s.allocd[h] = true
    · rw [if_pos ha, attempt_ok (freeHandle_ok_iff.2 ⟨ha, rfl⟩)]
    · rw [if_neg ha, attempt_error (c := .invalidHandle) (by simp [freeHandle, ha])]
  simp only [stealVoice, hv, hfree, unbind, State.updSlot, State.stolen]

theorem slot_freed (s : State) (h : Handle) : (s.freed h).slot = s.slot := by
  simp only [State.freed]
  split <;> rfl

theorem slot_stolen (s : State) (v : SlotId) (h : Handle) : (s.stolen v h).slot = s.slot.set v slotReset := by
  simp only [State.stolen]
  split
  · rw [slot_freed]
  · rfl

/-- Giving a handle back changes the handles held and the pools only (R126). -/
theorem frame_freed (s : State) (h : Handle) : ∃ allocd free2 free4,
    frame (s.freed h) = { frame s with allocd := allocd, free2 := free2, free4 := free4 } := by
  simp only [State.freed]
  split <;> exact ⟨_, _, _, rfl⟩

/-- The steal gives back at most one handle and unbinds a slot (R178). -/
theorem frame_stolen (s : State) (v : SlotId) (h : Handle) : ∃ allocd free2 free4,
    frame (s.stolen v h) =
      { frame s with allocd := allocd, free2 := free2, free4 := free4, slot := s.slot.set v slotReset } := by
  simp only [State.stolen]
  split
  · obtain ⟨a, f2, f4, hfreed⟩ := frame_freed s h
    have hset : frame { s.freed h with slot := (s.freed h).slot.set v slotReset } =
        { frame (s.freed h) with slot := s.slot.set v slotReset } := by
      rw [slot_freed]
      rfl
    exact ⟨a, f2, f4, by rw [hset, hfreed]⟩
  · exact ⟨_, _, _, rfl⟩

/-- Outside the register cache a forced silence does what a steal does (R176, R178). -/
theorem frame_silenced (s : State) (k : SlotId) (h : Handle) : frame (s.silenced k h) = frame (s.stolen k h) := by
  simp only [State.silenced, State.stolen]
  split
  · rw [frame_sends, slot_freed]
    rfl
  · rfl

/-- Handing out a handle changes the types, the mask, the handles held and the pools only (R122 to R125). -/
theorem frame_allocated {s u : State} {h : Handle} (ha : Allocated s h u) : ∃ ctype allocd free2 free4 fourOpMask,
    frame u = { frame s with
      ctype := ctype, allocd := allocd, free2 := free2, free4 := free4, fourOpMask := fourOpMask } := by
  cases ha <;> exact ⟨_, _, _, _, _, rfl⟩

/-- A slot that is Free stays Free when another is unbound by the steal. -/
theorem free_of_stolen {s : State} {k v : SlotId} {h : Handle} (hk : s.slot[k].lchan = none) :
    (s.stolen v h).slot[k].lchan = none := by
  rw [slot_stolen]
  by_cases hv : v.val = k.val
  · simp [hv, slotReset]
  · simpa [hv] using hk

/-- Step (3) of NOTE_ON: at most one steal, then an allocation or none (R172, R178). -/
theorem allocOrSteal_cases {c : ChType} {s s' : State} {r : Option Handle} (e : allocOrSteal cvs c s = (r, s')) :
    ∃ u, (u = s ∨ ∃ v h, s.slot[v].lchan = some h ∧ u = s.stolen v h)
      ∧ ((r = none ∧ s' = u) ∨ ∃ h, r = some h ∧ Allocated u h s') := by
  simp only [allocOrSteal] at e
  split at e
  · rename_i hok
    cases e
    exact ⟨s, .inl rfl, .inr ⟨_, rfl, allocated_of_allocate hok⟩⟩
  · split at e
    · cases e
      exact ⟨s, .inl rfl, .inl ⟨rfl, rfl⟩⟩
    · rename_i v hv
      obtain ⟨h, hh⟩ : ∃ h, s.slot[v].lchan = some h := by
        have hfound := List.find?_some hv
        simp only [Bool.and_eq_true] at hfound
        exact Option.isSome_iff_exists.1 hfound.1
      rw [stealVoice_eq hh] at e
      refine ⟨s.stolen v h, .inr ⟨v, h, hh, rfl⟩, ?_⟩
      split at e
      · rename_i hok
        cases e
        exact .inr ⟨_, rfl, allocated_of_allocate hok⟩
      · cases e
        exact .inl ⟨rfl, rfl⟩

theorem moves_noteOn {a b c : Byte} (hi : isNoteOn i = true) (e : execNoteOn a b c s = .next t) : Moves i s t := by
  simp only [execNoteOn] at e
  split at e
  · split at e
    · exact Moves.refuse .refl e
    · rename_i k hk
      have hfree : s.slot[k].lchan = none := by simpa using List.find?_some hk
      split at e
      all_goals
        rename_i hsteal
        obtain ⟨u, hu, hres⟩ := allocOrSteal_cases hsteal
        have hmoves : Moves i s u ∧ u.slot[k].lchan = none := by
          rcases hu with rfl | ⟨v, h, hv, rfl⟩
          · exact ⟨.refl, hfree⟩
          · exact ⟨.single (.steal hi hv), free_of_stolen hfree⟩
        rcases hres with ⟨hr, rfl⟩ | ⟨h, hr, halloc⟩
      · exact hmoves.1.refuse e
      · cases hr
      · cases hr
      · cases hr
        refine Moves.complete (Moves.same ?_ (frame_startVoice ..)) e
        exact hmoves.1.tail (.start hi hmoves.2 halloc (boundTo_boundSlot ..))
  · exact Moves.refuse .refl e

/-! ### Patches -/

/-- Every value of the PROGRAM selector gives a legal type and algorithm (R40, R89). -/
theorem programOf_legal {v : BitVec 7} {t : ChType} {alg : BitVec 2} (e : programOf v = some (t, alg)) :
    t ≠ .null ∧ algorithmLegal t alg = true := by
  simp only [programOf] at e
  split at e <;> cases e <;> exact ⟨by decide, by decide⟩

/-- The algorithm that a value selects is one of the patch type's (R40, R203). -/
theorem algorithmOf_legal {t : ChType} {v : BitVec 7} {alg : Nat} (e : algorithmOf t v = some alg) :
    algorithmLegal t (BitVec.ofNat 2 alg) = true := by
  have hv := v.isLt
  cases t with
  | twoOp | kick =>
    cases e
    simp only [algorithmLegal, scaled, BitVec.toNat_ofNat, decide_eq_true_eq, Nat.shiftRight_eq_div_pow]
    omega
  | fourOp => rfl
  | null | snare | tomTom | cymbal | hiHat => cases e

/-- The bend law stays within two semitones (R40, R107). -/
theorem bendLaw_range {v : Nat} (hv : v < 16384) : -200 ≤ bendLaw v ∧ bendLaw v ≤ 200 := by
  simp only [bendLaw]
  split
  · have : (8192 - v) * 200 / 8192 ≤ 200 := by omega
    omega
  · have : (v - 8192) * 200 / 8191 ≤ 200 := by omega
    omega

theorem bendCents_toInt {v : Nat} (hv : v < 16384) : (BitVec.ofInt 9 (bendLaw v)).toInt = bendLaw v := by
  obtain ⟨hlo, hhi⟩ := bendLaw_range hv
  rw [BitVec.toInt_ofInt]
  exact Int.bmod_eq_of_le (by omega) (by omega)

section Legal
variable {P : Patch} (hP : patchLegal P)
include hP

theorem patchLegal_program {t : ChType} {alg : BitVec 2} (ht : t ≠ .null) (ha : algorithmLegal t alg = true) :
    patchLegal { P with ctype := t, algorithm := alg } := ⟨ht, ha, hP.2.2⟩

theorem patchLegal_algorithm {alg : BitVec 2} (ha : algorithmLegal P.ctype alg = true) :
    patchLegal { P with algorithm := alg } := ⟨hP.1, ha, hP.2.2⟩

theorem patchLegal_bend {v : Nat} (hv : v < 16384) : patchLegal { P with bendCents := BitVec.ofInt 9 (bendLaw v) } := by
  refine ⟨hP.1, hP.2.1, ?_⟩
  simp only [bendCents_toInt hv]
  exact bendLaw_range hv

end Legal

theorem Moves.patch (h : Moves i s t) (hw : writesPatches i = true) {m : MidiId} {f : Patch → Patch}
    (hf : patchLegal t.patch[m] → patchLegal (f t.patch[m])) : Moves i s (t.updPatch m f) := h.tail (.patch hw hf)

theorem moves_pitchBend {a : Byte} {v : BitVec 16} (hw : writesPatches i = true) (e : execPitchBend a v s = .next t) :
    Moves i s t := by
  simp only [execPitchBend] at e
  split at e
  · exact Moves.refuse .refl e
  · split at e
    · exact Moves.refuse .refl e
    · rename_i hv
      refine ((Moves.patch .refl hw fun hP => patchLegal_bend hP (by omega)).visit fun k h u hu _ => ?_).complete e
      exact hu.same (frame_attempt fun _ e => frame_setFreq e)

theorem moves_ctrlProgram {a c : Byte} (hs : silences i = true) (hw : writesPatches i = true)
    (e : execCtrlProgram a c s = .next t) : Moves i s t := by
  refine moves_ctrlCommand (fun m v u eb => ?_) e
  split at eb
  · exact (not_ok eb).elim
  · rename_i hprog
    obtain rfl := ok_eq eb
    have hsilent : Moves i s (Machine.forVoices m (forceSilence cvs) s) :=
      Moves.visit (fun k h u hu hk => AtVoice.silence ⟨hu, hk⟩ hs) .refl
    obtain ⟨htype, halg⟩ := programOf_legal hprog
    exact hsilent.patch hw fun hP => patchLegal_program hP htype halg

theorem moves_ctrlVolume {a c : Byte} (hw : writesPatches i = true) (e : execCtrlVolume a c s = .next t) :
    Moves i s t := by
  refine moves_ctrlCommand (fun m v u eb => ?_) e
  obtain rfl := ok_eq eb
  refine (Moves.patch .refl hw id).forVoices fun k h t => frame_forOpIndices (fun j u => ?_) t
  split
  · exact frame_setAtten ..
  · rfl

theorem moves_ctrlAlgorithm {a c : Byte} (hw : writesPatches i = true) (e : execCtrlAlgorithm a c s = .next t) :
    Moves i s t := by
  refine moves_ctrlCommand (fun m v u eb => ?_) e
  split at eb
  · exact (not_ok eb).elim
  · rename_i halg
    obtain rfl := ok_eq eb
    refine (Moves.patch .refl hw fun hP => patchLegal_algorithm hP (algorithmOf_legal halg)).forVoices fun k h t => ?_
    rw [frame_forOpIndices (fun j u => frame_setAtten k h j u)]
    exact frame_attempt fun _ e => frame_setAlgorithm e

theorem moves_ctrlFeedback {a c : Byte} (hw : writesPatches i = true) (e : execCtrlFeedback a c s = .next t) :
    Moves i s t := by
  refine moves_ctrlCommand (fun m v u eb => ?_) e
  obtain rfl := ok_eq eb
  exact (Moves.patch .refl hw id).forVoices fun k h t => frame_attempt fun _ e => frame_setFeedback e

theorem moves_ctrlOutput {a c : Byte} (hw : writesPatches i = true) (e : execCtrlOutput a c s = .next t) :
    Moves i s t := by
  refine moves_ctrlCommand (fun m v u eb => ?_) e
  obtain rfl := ok_eq eb
  exact (Moves.patch .refl hw id).forVoices fun k h t => frame_attempt fun _ e => frame_setOutput e

theorem moves_ctrlLfoDelay {a c : Byte} (hw : writesPatches i = true) (e : execCtrlLfoDelay a c s = .next t) :
    Moves i s t := by
  refine moves_ctrlCommand (fun m v u eb => ?_) e
  obtain rfl := ok_eq eb
  exact Moves.patch .refl hw id

theorem moves_opCtrl {w : Nat} {put : Nat → Template → Template} {how : OpApply} {a c : Byte} {j : BitVec 2}
    (hw : writesPatches i = true) (e : opCtrl cvs w put how a j c s = .next t) : Moves i s t := by
  refine moves_ctrlCommand (fun m v u eb => ?_) e
  obtain rfl := ok_eq eb
  exact (Moves.patch .refl hw id).forVoices (frame_opApply how _ _)

theorem moves_ctrlSustainPedal {a c : Byte} (hv : isVoiceManager i = true) (hw : writesPatches i = true)
    (e : execCtrlSustainPedal a c s = .next t) : Moves i s t := by
  refine moves_ctrlCommand (fun m v u eb => ?_) e
  split at eb
  · obtain rfl := ok_eq eb
    exact Moves.patch .refl hw id
  · obtain rfl := ok_eq eb
    exact (Moves.patch .refl hw id).visit fun k h u hu hk => AtVoice.release ⟨hu, hk⟩ hv

theorem moves_ctrlAllSoundOff {a c : Byte} (hs : silences i = true) (e : execCtrlAllSoundOff a c s = .next t) :
    Moves i s t := by
  refine moves_ctrlCommand (fun m v u eb => ?_) e
  obtain rfl := ok_eq eb
  exact Moves.visit (fun k h u hu hk => AtVoice.silence ⟨hu, hk⟩ hs) .refl

theorem moves_ctrlAllNotesOff {a c : Byte} (hv : isVoiceManager i = true) (e : execCtrlAllNotesOff a c s = .next t) :
    Moves i s t := by
  refine moves_ctrlCommand (fun m v u eb => ?_) e
  obtain rfl := ok_eq eb
  exact Moves.visit (fun k h u hu hk => AtVoice.stop ⟨hu, hk⟩ hv) .refl

theorem moves_noteOff {a b : Byte} (hv : isVoiceManager i = true) (e : execNoteOff a b s = .next t) : Moves i s t := by
  simp only [execNoteOff] at e
  split at e
  · exact (Moves.visit (fun k h u hu hk => AtVoice.stop ⟨hu, hk⟩ hv) .refl).complete e
  · exact Moves.refuse .refl e

theorem moves_service {v : BitVec 16} (hs : silences i = true) (hv : isVoiceManager i = true)
    (e : execService v s = .next t) : Moves i s t :=
  (Moves.visit (fun _ _ _ hu hk => AtVoice.service ⟨hu, hk⟩ hs hv v) .refl).complete e

/-! ### The allocator's commands -/

theorem moves_alloc {a : Byte} (hi : i = .alloc a) (e : execAlloc a s = .next t) : Moves i s t := by
  simp only [execAlloc] at e
  split at e
  · exact Moves.refuse .refl e
  · split at e
    · rename_i hok
      exact (Moves.complete (Relation.ReflTransGen.single (.alloc hi (allocated_of_allocate hok))) e)
    · exact Moves.refuse .refl e

theorem moves_free {a : Byte} (hi : i = .free a) (e : execFree a s = .next t) : Moves i s t := by
  refine moves_withHandle (fun h u eu => ?_) e
  obtain ⟨ha, rfl⟩ := freeHandle_ok_iff.1 eu
  exact .single (.free hi ha)

theorem moves_percEnable (hi : i = .percEnable) (e : execPercEnable s = .next t) : Moves i s t := by
  simp only [execPercEnable] at e
  split at e
  · exact Moves.refuse .refl e
  · rename_i hc
    simp only [Bool.or_eq_true, Bool.not_eq_true', not_or, Bool.not_eq_true, Bool.not_eq_false, Bool.and_eq_true] at hc
    obtain ⟨hoff, ⟨h6, h7⟩, h8⟩ := hc
    have hon : Moves i s _ := .single (.percOn hi hoff h6 h7 h8)
    exact (hon.same (by simp)).complete e

theorem moves_percDisable (hi : i = .percDisable) (e : execPercDisable s = .next t) : Moves i s t := by
  simp only [execPercDisable] at e
  split at e
  · exact Moves.refuse .refl e
  · rename_i hc
    simp only [Bool.or_eq_true, Bool.not_eq_true', not_or, Bool.not_eq_false] at hc
    have hoff : Moves i s _ := .single (.percOff hi hc.1)
    exact (hoff.same (by simp)).complete e

theorem moves_init (hi : i = .init) (e : execInit s = .next t) : Moves i s t := by
  have hreset : Moves i s (s.resetBlock cvs) := .single (.init hi)
  exact (hreset.same (frame_initWrites _)).complete e

theorem moves_detect (hi : i = .detect) (e : execDetect s = .next t) : Moves i s t := by
  have hread (u : State) : Moves i u (busRead (aport cvs 0) u).2 := .single (.probe hi (frame_busRead _ u))
  have hwrite (u : State) (r : SetId × Byte) (v : Byte) : Moves i u (regWriteAt cvs r v u) :=
    Moves.of_frame (frame_regWriteAt r v u)
  have htimers (u : State) : Moves i u (resetTimers cvs u) := (hwrite u _ _).trans (hwrite ..)
  simp only [execDetect] at e
  refine Moves.complete ?_ e
  exact (((((htimers s).trans (hread _)).trans (hwrite ..)).trans (hwrite ..)).trans (hread _)).trans (htimers _)

theorem moves_setOpCommand {f : OpField} {a b c : Byte} (e : setOpCommand cvs f a b c s = .next t) : Moves i s t :=
  moves_withHandle (fun _ _ eu => Moves.of_frame (frame_setOp eu)) e

/-! ### Every command -/

/-- The general CTRL row of a well-formed command is refused (R200, R224). -/
theorem moves_ctrl {a b c : Byte} (hi : (Instr.ctrl a b c).wf cvs = true) (e : execCtrl a b c s = .next t) :
    Moves i s t := by
  have hnone : controllerOf cvs b = none := by simpa [Instr.wf, assignedController] using hi
  simp only [execCtrl, hnone] at e
  exact Moves.refuse .refl e

/-- A command is a run of moves. -/
theorem exec_moves (hi : i.wf cvs = true) (e : exec i s = .next t) : Moves i s t := by
  cases i <;> simp only [exec] at e
  case nop => exact Moves.complete .refl e
  case noteOn => exact moves_noteOn rfl e
  case noteOff => exact moves_noteOff rfl e
  case ctrl => exact moves_ctrl hi e
  case ctrlProgram => exact moves_ctrlProgram rfl rfl e
  case ctrlVolume => exact moves_ctrlVolume rfl e
  case ctrlAlgorithm => exact moves_ctrlAlgorithm rfl e
  case ctrlFeedback => exact moves_ctrlFeedback rfl e
  case ctrlOutput => exact moves_ctrlOutput rfl e
  case ctrlLfoDelay => exact moves_ctrlLfoDelay rfl e
  case ctrlOpAttack | ctrlOpDecay | ctrlOpSustain | ctrlOpRelease | ctrlOpWaveform | ctrlOpLevel | ctrlOpKsl
    | ctrlOpMult | ctrlOpTremolo | ctrlOpVibrato | ctrlOpSusflag | ctrlOpEnvscale | ctrlOpVelsens =>
    exact moves_opCtrl rfl e
  case ctrlSustainPedal => exact moves_ctrlSustainPedal rfl rfl e
  case ctrlAllSoundOff => exact moves_ctrlAllSoundOff rfl e
  case ctrlAllNotesOff => exact moves_ctrlAllNotesOff rfl e
  case pitchBend => exact moves_pitchBend rfl e
  case service => exact moves_service rfl rfl e
  case init => exact moves_init rfl e
  case detect => exact moves_detect rfl e
  case alloc => exact moves_alloc rfl e
  case free => exact moves_free rfl e
  case percEnable => exact moves_percEnable rfl e
  case percDisable => exact moves_percDisable rfl e
  case keyOn | keyOff => exact moves_withHandle (fun _ _ eu => Moves.of_frame (frame_setKey eu)) e
  case setFreq => exact moves_withHandle (fun _ _ eu => Moves.of_frame (frame_setFreq eu)) e
  case setOutput => exact moves_withHandle (fun _ _ eu => Moves.of_frame (frame_setOutput eu)) e
  case setFeedback => exact moves_withHandle (fun _ _ eu => Moves.of_frame (frame_setFeedback eu)) e
  case setAlgorithm => exact moves_withHandle (fun _ _ eu => Moves.of_frame (frame_setAlgorithm eu)) e
  case setOpAttack | setOpDecay | setOpSustain | setOpRelease | setOpWaveform | setOpAttenuation | setOpKsl
    | setOpMult | setOpTremolo | setOpVibrato | setOpSusflag | setOpEnvscale => exact moves_setOpCommand e
  case getOpType a b =>
    simp only [execGetOpType] at e
    split at e
    · exact Moves.refuse .refl e
    · exact Moves.complete .refl e
  case getOpCount a =>
    simp only [execGetOpCount] at e
    split at e
    · exact Moves.refuse .refl e
    · exact Moves.complete .refl e

end Runs

/-- The command that a controller of the map is (R88). -/
def controllerInstr (a : Byte) (i : BitVec 2) (c : Byte) : Controller → Instr
  | .program => .ctrlProgram a c
  | .volume => .ctrlVolume a c
  | .algorithm => .ctrlAlgorithm a c
  | .feedback => .ctrlFeedback a c
  | .output => .ctrlOutput a c
  | .lfoDelay => .ctrlLfoDelay a c
  | .opAttack => .ctrlOpAttack a i c
  | .opDecay => .ctrlOpDecay a i c
  | .opSustain => .ctrlOpSustain a i c
  | .opRelease => .ctrlOpRelease a i c
  | .opWaveform => .ctrlOpWaveform a i c
  | .opLevel => .ctrlOpLevel a i c
  | .opKsl => .ctrlOpKsl a i c
  | .opMult => .ctrlOpMult a i c
  | .opTremolo => .ctrlOpTremolo a i c
  | .opVibrato => .ctrlOpVibrato a i c
  | .opSusflag => .ctrlOpSusflag a i c
  | .opEnvscale => .ctrlOpEnvscale a i c
  | .opVelsens => .ctrlOpVelsens a i c
  | .sustainPedal => .ctrlSustainPedal a c
  | .allSoundOff => .ctrlAllSoundOff a c
  | .allNotesOff => .ctrlAllNotesOff a c

theorem controllerInstr_wf (a : Byte) (i : BitVec 2) (c : Byte) (n : Controller) :
    (controllerInstr a i c n).wf cvs = true := by cases n <;> rfl

theorem controllerInstr_isVoiceManager (a : Byte) (i : BitVec 2) (c : Byte) (n : Controller) :
    isVoiceManager (controllerInstr a i c n) = true := by cases n <;> rfl

/-- A general CTRL term with an assigned number acts as that controller's own row (R88, log 11). -/
theorem exec_ctrl_assigned {b : Byte} {n : Controller} (hn : controllerOf cvs b = some n) (a c : Byte) (s : State) :
    exec (.ctrl a b c) s = exec (controllerInstr a (b.extractLsb' 0 2) c n) s := by
  simp only [exec, execCtrl, hn]
  cases n <;> rfl

/-- Every term acts as a well-formed command: itself, or a controller. -/
theorem exec_actsAs (i : Instr) :
    ∃ j : Instr, j.wf cvs = true ∧ (j = i ∨ isVoiceManager j = true) ∧ ∀ s, exec i s = exec j s := by
  by_cases hi : i.wf cvs = true
  · exact ⟨i, hi, .inl rfl, fun _ => rfl⟩
  · cases i with
    | ctrl a b c =>
      obtain ⟨n, hn⟩ : ∃ n, controllerOf cvs b = some n := by
        rw [← Option.ne_none_iff_exists']
        simpa [Instr.wf, assignedController] using hi
      exact ⟨_, controllerInstr_wf .., .inr (controllerInstr_isVoiceManager ..), exec_ctrl_assigned hn a c⟩
    | _ => exact absurd rfl hi

/-! ### What the moves keep, a command keeps -/

theorem Moves.keeps {P : State → Prop} {i : Instr} (hmove : ∀ {s t}, P s → Move i s t → P t) {s t : State} (hs : P s)
    (h : Moves i s t) : P t := by
  induction h with
  | refl => exact hs
  | tail _ hm ih => exact hmove ih hm

theorem exec_keeps {P : State → Prop} (hmove : ∀ {i s t}, P s → Move i s t → P t) {i : Instr} {s t : State} (hs : P s)
    (e : exec i s = .next t) : P t := by
  obtain ⟨j, hj, -, hexec⟩ := exec_actsAs i
  exact Moves.keeps hmove hs (exec_moves hj (hexec s ▸ e))

end Sys2Proof.CommandMoves
end

section
/-! The allocator's invariant (R21 to R25): each move keeps it, and what follows from it. -/

namespace Sys2Proof.AllocatorInvariant

open Sys2Proof.Machine Sys2Proof.Steps Sys2Proof.Allocation Sys2Proof.CommandMoves

/-! ### Reading after a write -/

theorem get_set {α : Type} {n : Nat} (v : Vector α n) (c d : Fin n) (x : α) :
    (v.set c x)[d] = if d = c then x else v[d] := by
  rw [Fin.getElem_fin, Vector.getElem_set, Fin.getElem_fin]
  simp only [Fin.ext_iff, eq_comm]

theorem get_ite {α : Type} {n : Nat} (p : Prop) [Decidable p] (v w : Vector α n) (d : Fin n) :
    (if p then v else w)[d] = if p then v[d] else w[d] := by
  split <;> rfl

/-! ### The pairs (R8) -/

theorem isPrimary_pair (j : PairId) : isPrimary cvs.pairs[j].1 = true := by revert j; decide
theorem isSecondary_pair (j : PairId) : isSecondary cvs.pairs[j].2 = true := by revert j; decide
theorem primary_inj {j k : PairId} : cvs.pairs[j].1 = cvs.pairs[k].1 ↔ j = k := by revert j k; decide
theorem secondary_inj {j k : PairId} : cvs.pairs[j].2 = cvs.pairs[k].2 ↔ j = k := by revert j k; decide
theorem primary_ne_secondary (j k : PairId) : cvs.pairs[j].1 ≠ cvs.pairs[k].2 := by revert j k; decide
theorem secondary_ne_primary (j k : PairId) : cvs.pairs[j].2 ≠ cvs.pairs[k].1 := (primary_ne_secondary k j).symm
theorem exists_pair_of_isSecondary {c : PhysId} : isSecondary c = true → ∃ j : PairId, cvs.pairs[j].2 = c := by
  revert c; decide

/-- The reserved channels are in no pair (R24). -/
theorem not_reserved_primary (s : State) (j : PairId) : percReserved s cvs.pairs[j].1 = false := by
  have h : ∀ c : PhysId, isPrimary c = true → (c.val == 6 || c.val == 7 || c.val == 8) = false := by decide
  rw [percReserved, h _ (isPrimary_pair j), Bool.and_false]

theorem not_reserved_secondary (s : State) (j : PairId) : percReserved s cvs.pairs[j].2 = false := by
  have h : ∀ c : PhysId, isSecondary c = true → (c.val == 6 || c.val == 7 || c.val == 8) = false := by decide
  rw [percReserved, h _ (isSecondary_pair j), Bool.and_false]

theorem getLsbD_maskSet (mask : BitVec 6) (j k : PairId) :
    (maskSet mask j).getLsbD k.val = (mask.getLsbD k.val || decide (k = j)) := by
  have hbit : ((1 : BitVec 6) <<< j.val).getLsbD k.val = decide (k = j) := by revert j k; decide
  rw [maskSet, BitVec.getLsbD_or, hbit]

theorem getLsbD_maskClear (mask : BitVec 6) (j k : PairId) :
    (maskClear mask j).getLsbD k.val = (mask.getLsbD k.val && !decide (k = j)) := by
  have hbit : (~~~((1 : BitVec 6) <<< j.val)).getLsbD k.val = !decide (k = j) := by revert j k; decide
  rw [maskClear, BitVec.getLsbD_and, hbit]

/-! ### One channel's part of the invariant -/

/-- The condition of `chanOk` on a channel's type and on its places: held, in the 2-op pool, in the 4-op pool, reserved. -/
def Fits (c : PhysId) (t : PhysType) (held in2 in4 reserved : Bool) : Prop :=
  match t with
  | .twoOp => in4 = false ∧ held.toNat + in2.toNat + reserved.toNat = 1
  | .fourOp => isPrimary c = true ∧ in2 = false ∧ held = !in4
  | .null => isSecondary c = true ∧ held = false ∧ in2 = false ∧ in4 = false

theorem chanOk_iff (s : State) (c : PhysId) :
    chanOk s c ↔ Fits c s.ctype[c] s.allocd[physHandle c] s.free2[c] s.free4[c] (percReserved s c) :=
  Iff.rfl

section Fits
variable {c : PhysId} {t : PhysType} {held in2 in4 reserved : Bool}

theorem Fits.of_in2 (h : Fits c t held true in4 reserved) :
    t = .twoOp ∧ held = false ∧ in4 = false ∧ reserved = false := by
  cases t with
  | twoOp => cases held <;> cases reserved <;> simp_all [Fits]
  | fourOp | null => simp [Fits] at h

theorem Fits.of_in4 (h : Fits c t held in2 true reserved) : t = .fourOp ∧ held = false ∧ in2 = false := by
  cases t with
  | fourOp => simpa [Fits, and_comm] using h.2
  | twoOp | null => simp [Fits] at h

theorem Fits.of_reserved (h : Fits c t held in2 in4 true) (hp : isPrimary c = false) (hs : isSecondary c = false) :
    t = .twoOp ∧ held = false ∧ in2 = false ∧ in4 = false := by
  cases t with
  | twoOp => cases held <;> cases in2 <;> simp_all [Fits]
  | fourOp | null => simp [Fits, hp, hs] at h

theorem Fits.of_held (h : Fits c t true in2 in4 reserved) :
    (t = .twoOp ∨ t = .fourOp) ∧ in2 = false ∧ in4 = false ∧ (t = .twoOp → reserved = false) := by
  cases t with
  | twoOp => cases in2 <;> cases reserved <;> simp_all [Fits]
  | fourOp => cases in4 <;> simp_all [Fits]
  | null => simp [Fits] at h

/-- A held channel given back to its type's pool (R126). -/
theorem Fits.release (h : Fits c t true in2 in4 reserved) :
    Fits c t false (if t = .twoOp then true else in2) (if t = .fourOp then true else in4) reserved := by
  obtain ⟨rfl | rfl, rfl, rfl, hr⟩ := h.of_held
  · simp [Fits, hr rfl]
  · simpa [Fits] using h.1

theorem Fits.hold2 (h : Fits c t held true in4 reserved) : Fits c t true false in4 reserved := by
  obtain ⟨rfl, -, rfl, rfl⟩ := h.of_in2
  simp [Fits]

theorem Fits.hold4 (h : Fits c t held in2 true reserved) : Fits c t true in2 false reserved := by
  obtain ⟨rfl, -, rfl⟩ := h.of_in4
  simpa [Fits] using h.1

theorem Fits.reserve (h : Fits c t held true in4 reserved) : Fits c t held false in4 true := by
  obtain ⟨rfl, rfl, rfl, -⟩ := h.of_in2
  simp [Fits]

theorem Fits.unreserve (h : Fits c t held in2 in4 true) (hp : isPrimary c = false) (hs : isSecondary c = false) :
    Fits c t held true in4 false := by
  obtain ⟨rfl, rfl, -, rfl⟩ := h.of_reserved hp hs
  simp [Fits]

end Fits

/-! ### The invariant depends on the allocator's state alone -/

theorem AllocInv.congr {s t : State} (h : AllocInv s) (hc : t.ctype = s.ctype) (ha : t.allocd = s.allocd)
    (h2 : t.free2 = s.free2) (h4 : t.free4 = s.free4) (hp : t.percEnabled = s.percEnabled)
    (hm : t.fourOpMask = s.fourOpMask) : AllocInv t := by
  refine ⟨fun c => ?_, fun j => ?_⟩
  · have hch := (chanOk_iff s c).1 (h.1 c)
    rw [chanOk_iff, hc, ha, h2, h4]
    simpa only [percReserved, hp] using hch
  · have hpair := h.2 j
    simpa only [pairOk, hc, hm] using hpair

theorem AllocInv.of_frame {s t : State} (h : AllocInv s) (e : frame t = frame s) : AllocInv t :=
  AllocInv.congr h (congrArg Frame.ctype e) (congrArg Frame.allocd e) (congrArg Frame.free2 e) (congrArg Frame.free4 e)
    (congrArg Frame.percEnabled e) (congrArg Frame.fourOpMask e)

/-- The invariant of a state with the same types, mask and percussion mode: what is left is each channel's places. -/
theorem AllocInv.of_places {s t : State} (h : AllocInv s) (hc : t.ctype = s.ctype) (hp : t.percEnabled = s.percEnabled)
    (hm : t.fourOpMask = s.fourOpMask)
    (hplaces : ∀ c : PhysId, Fits c s.ctype[c] s.allocd[physHandle c] s.free2[c] s.free4[c] (percReserved s c) →
      Fits c s.ctype[c] t.allocd[physHandle c] t.free2[c] t.free4[c] (percReserved s c)) : AllocInv t := by
  refine ⟨fun c => ?_, fun j => ?_⟩
  · have hch := hplaces c ((chanOk_iff s c).1 (h.1 c))
    rw [chanOk_iff, hc]
    simpa only [percReserved, hp] using hch
  · have hpair := h.2 j
    simpa only [pairOk, hc, hm] using hpair

theorem fits_of_allocInv {s : State} (h : AllocInv s) (c : PhysId) :
    Fits c s.ctype[c] s.allocd[physHandle c] s.free2[c] s.free4[c] (percReserved s c) := (chanOk_iff s c).1 (h.1 c)

theorem mask_iff {s : State} (h : AllocInv s) (j : PairId) :
    s.fourOpMask.getLsbD j.val = true ↔ s.ctype[cvs.pairs[j].1] = .fourOp := (h.2 j).1

theorem null_iff {s : State} (h : AllocInv s) (j : PairId) :
    s.ctype[cvs.pairs[j].2] = .null ↔ s.ctype[cvs.pairs[j].1] = .fourOp := (h.2 j).2

/-! ### FREE -/

theorem freed_phys (s : State) (c : PhysId) :
    s.freed (physHandle c) = { s with
      allocd := s.allocd.set (physHandle c) false
      free2 := if s.ctype[c] = .twoOp then s.free2.set c true else s.free2
      free4 := if s.ctype[c] = .fourOp then s.free4.set c true else s.free4 } := by
  simp only [State.freed, physOrRole_phys]

theorem freed_role (s : State) (r : RoleId) :
    s.freed (roleHandle r) = { s with allocd := s.allocd.set (roleHandle r) false } := by
  simp only [State.freed, physOrRole_role]

theorem allocd_freed (s : State) (h : Handle) : (s.freed h).allocd = s.allocd.set h false := by
  obtain ⟨c, rfl⟩ | ⟨r, rfl⟩ := handle_cases h
  · rw [freed_phys]
  · rw [freed_role]

theorem allocInv_freed {s : State} (hs : AllocInv s) {h : Handle} (ha : s.allocd[h] = true) : AllocInv (s.freed h) := by
  obtain ⟨c, rfl⟩ | ⟨r, rfl⟩ := handle_cases h
  · rw [freed_phys]
    refine AllocInv.of_places hs rfl rfl rfl fun d hd => ?_
    by_cases hdc : d = c
    · subst hdc
      rw [ha] at hd
      simpa only [get_set, if_true, get_ite] using hd.release
    · simpa only [get_set, physHandle_inj, hdc, if_false, get_ite, ite_self] using hd
  · rw [freed_role]
    refine AllocInv.of_places hs rfl rfl rfl fun d hd => ?_
    simpa only [get_set, physHandle_ne_roleHandle, if_false] using hd

/-! ### ALLOC -/

theorem allocInv_pool2 {s : State} (hs : AllocInv s) {c : PhysId} (hc : s.free2[c] = true) :
    AllocInv ((s.setFree2 c false).setAllocd (physHandle c) true) := by
  refine AllocInv.of_places hs rfl rfl rfl fun d hd => ?_
  simp only [setAllocd_allocd, setFree2_allocd, setAllocd_free2, setFree2_free2, setAllocd_free4, setFree2_free4,
    get_set, physHandle_inj]
  by_cases hdc : d = c
  · subst hdc
    rw [hc] at hd
    simpa only [if_true] using hd.hold2
  · simpa only [hdc, if_false] using hd

theorem allocInv_pool4 {s : State} (hs : AllocInv s) {c : PhysId} (hc : s.free4[c] = true) :
    AllocInv ((s.setFree4 c false).setAllocd (physHandle c) true) := by
  refine AllocInv.of_places hs rfl rfl rfl fun d hd => ?_
  simp only [setAllocd_allocd, setFree4_allocd, setAllocd_free2, setFree4_free2, setAllocd_free4, setFree4_free4,
    get_set, physHandle_inj]
  by_cases hdc : d = c
  · subst hdc
    rw [hc] at hd
    simpa only [if_true] using hd.hold4
  · simpa only [hdc, if_false] using hd

theorem allocInv_role {s : State} (hs : AllocInv s) (r : RoleId) : AllocInv (s.setAllocd (roleHandle r) true) := by
  refine AllocInv.of_places hs rfl rfl rfl fun d hd => ?_
  simpa only [setAllocd_allocd, setAllocd_free2, setAllocd_free4, get_set, physHandle_ne_roleHandle, if_false] using hd

/-- A FourOp pair in the invariant: its primary is FourOp, its secondary Null and in no pool (R24). -/
theorem fourOp_pair {s : State} (hs : AllocInv s) {j : PairId} (hj : s.free4[cvs.pairs[j].1] = true) :
    s.ctype[cvs.pairs[j].1] = .fourOp ∧ s.free2[cvs.pairs[j].1] = false ∧ s.ctype[cvs.pairs[j].2] = .null
      ∧ s.allocd[physHandle cvs.pairs[j].2] = false ∧ s.free4[cvs.pairs[j].2] = false := by
  have hprim := fits_of_allocInv hs cvs.pairs[j].1
  rw [hj] at hprim
  obtain ⟨htype, -, hfree⟩ := hprim.of_in4
  have hnull : s.ctype[cvs.pairs[j].2] = .null := (null_iff hs j).2 htype
  have hsec := fits_of_allocInv hs cvs.pairs[j].2
  rw [hnull] at hsec
  obtain ⟨-, ha, -, h4⟩ := hsec
  exact ⟨htype, hfree, hnull, ha, h4⟩

theorem allocInv_split {s : State} (hs : AllocInv s) {j : PairId} (hj : s.free4[cvs.pairs[j].1] = true) :
    AllocInv (splitPair s j) := by
  obtain ⟨-, hfree, -, hheld, hfour⟩ := fourOp_pair hs hj
  refine AllocInv.of_frame (s := splitBlock s j) ⟨fun d => ?_, fun k => ?_⟩ (frame_sends ..)
  · rw [chanOk_iff, show percReserved (splitBlock s j) d = percReserved s d from rfl]
    simp only [splitBlock, get_set, physHandle_inj]
    by_cases hd1 : d = cvs.pairs[j].1
    · subst hd1
      simp only [if_true, primary_ne_secondary, if_false, hfree, not_reserved_primary]
      exact ⟨rfl, rfl⟩
    · by_cases hd2 : d = cvs.pairs[j].2
      · subst hd2
        simp only [if_true, secondary_ne_primary, if_false, hheld, hfour, not_reserved_secondary]
        exact ⟨rfl, rfl⟩
      · simpa only [hd1, hd2, if_false] using fits_of_allocInv hs d
  · have hpair := hs.2 k
    simp only [splitBlock, pairOk, get_set, getLsbD_maskClear, primary_inj, secondary_inj, primary_ne_secondary,
      secondary_ne_primary, if_false] at hpair ⊢
    by_cases hkj : k = j
    · simp [hkj]
    · simpa only [hkj, if_false, decide_false, Bool.not_false, Bool.and_true] using hpair

theorem allocInv_merge {s : State} (hs : AllocInv s) {j : PairId} (hc : s.free2[cvs.pairs[j].1] = true)
    (hd : s.free2[cvs.pairs[j].2] = true) : AllocInv (mergePair s j) := by
  have hprim := fits_of_allocInv hs cvs.pairs[j].1
  have hsec := fits_of_allocInv hs cvs.pairs[j].2
  rw [hc] at hprim
  rw [hd] at hsec
  obtain ⟨-, -, hprim4, -⟩ := hprim.of_in2
  obtain ⟨-, hheld, hsec4, -⟩ := hsec.of_in2
  refine AllocInv.of_frame (s := mergeBlock s j) ⟨fun d => ?_, fun k => ?_⟩ (frame_sends ..)
  · rw [chanOk_iff, show percReserved (mergeBlock s j) d = percReserved s d from rfl]
    simp only [mergeBlock, get_set, physHandle_inj]
    by_cases hd1 : d = cvs.pairs[j].1
    · subst hd1
      simp only [if_true, primary_ne_secondary, if_false, hprim4]
      exact ⟨isPrimary_pair j, rfl, rfl⟩
    · by_cases hd2 : d = cvs.pairs[j].2
      · subst hd2
        simp only [if_true, secondary_ne_primary, if_false, hheld, hsec4]
        exact ⟨isSecondary_pair j, rfl, rfl, rfl⟩
      · simpa only [hd1, hd2, if_false] using fits_of_allocInv hs d
  · have hpair := hs.2 k
    simp only [mergeBlock, pairOk, get_set, getLsbD_maskSet, primary_inj, secondary_inj, primary_ne_secondary,
      secondary_ne_primary, if_false] at hpair ⊢
    by_cases hkj : k = j
    · simp [hkj]
    · simpa only [hkj, if_false, decide_false, Bool.or_false] using hpair

theorem allocInv_allocated {s u : State} {h : Handle} (hs : AllocInv s) (ha : Allocated s h u) : AllocInv u := by
  cases ha with
  | pool2 c hc => exact allocInv_pool2 hs hc
  | pool4 c hc => exact allocInv_pool4 hs hc
  | split j hj => exact allocInv_split hs hj
  | merge j hc hd => exact allocInv_merge hs hc hd
  | role r => exact allocInv_role hs r

/-! ### Percussion mode, the reset values -/

/-- The channels that percussion mode reserves (R24). -/
def reservable (c : PhysId) : Bool := c.val == 6 || c.val == 7 || c.val == 8

theorem not_pair_of_reservable {c : PhysId} : reservable c = true → isPrimary c = false ∧ isSecondary c = false := by
  revert c; decide

/-- The 2-op pool after a change of the three reservable channels. -/
theorem get_three (v : Vector Bool 18) (b : Bool) (c : PhysId) :
    (((v.set 6 b).set 7 b).set 8 b)[c] = if reservable c = true then b else v[c] := by
  have h (n : Nat) (hn : n < 18) (w : Vector Bool 18) : (w.set n b)[c] = if c.val = n then b else w[c] := by
    simp only [Fin.getElem_fin, Vector.getElem_set, eq_comm]
  by_cases h6 : c.val = 6 <;> by_cases h7 : c.val = 7 <;> by_cases h8 : c.val = 8 <;> simp [h, reservable, h6, h7, h8]

theorem allocInv_percOn {s : State} (hs : AllocInv s) (hoff : s.percEnabled = false) (h6 : s.free2[6] = true)
    (h7 : s.free2[7] = true) (h8 : s.free2[8] = true) :
    AllocInv { ((s.setFree2 6 false).setFree2 7 false).setFree2 8 false with percEnabled := true } := by
  refine ⟨fun c => ?_, fun j => hs.2 j⟩
  have hold := fits_of_allocInv hs c
  have hnew : (((s.free2.set 6 false).set 7 false).set 8 false)[c] = if reservable c = true then false else s.free2[c] :=
    get_three ..
  have hfree : reservable c = true → s.free2[c] = true := by
    simp only [reservable, Bool.or_eq_true, beq_iff_eq, Fin.getElem_fin]
    rintro ((hc | hc) | hc) <;> simpa only [hc]
  rw [chanOk_iff]
  simp only [percReserved, hoff, Bool.true_and, Bool.false_and] at hold ⊢
  change Fits c s.ctype[c] s.allocd[physHandle c] (((s.free2.set 6 false).set 7 false).set 8 false)[c] s.free4[c]
    (reservable c)
  rw [hnew]
  cases hr : reservable c with
  | true =>
    rw [hfree hr] at hold
    simpa using hold.reserve
  | false => simpa using hold

theorem allocInv_percOff {s : State} (hs : AllocInv s) (hon : s.percEnabled = true) :
    AllocInv (((State.setFree2 { s with percEnabled := false } 6 true).setFree2 7 true).setFree2 8 true) := by
  refine ⟨fun c => ?_, fun j => hs.2 j⟩
  have hold := fits_of_allocInv hs c
  have hnew : (((s.free2.set 6 true).set 7 true).set 8 true)[c] = if reservable c = true then true else s.free2[c] :=
    get_three ..
  rw [chanOk_iff]
  simp only [percReserved, hon, Bool.true_and] at hold
  change Fits c s.ctype[c] s.allocd[physHandle c] (((s.free2.set 6 true).set 7 true).set 8 true)[c] s.free4[c] false
  rw [hnew]
  change Fits c s.ctype[c] s.allocd[physHandle c] s.free2[c] s.free4[c] (reservable c) at hold
  cases hr : reservable c with
  | true =>
    rw [hr] at hold
    obtain ⟨hp, hs⟩ := not_pair_of_reservable hr
    simpa using hold.unreserve hp hs
  | false => simpa [hr] using hold

theorem allocInv_reset : AllocInv State.reset := by
  refine ⟨fun c => ?_, fun j => ?_⟩
  · rw [chanOk_iff]
    simp [State.reset, State.resetWith, Fits, percReserved]
  · simp [State.reset, State.resetWith, pairOk]

theorem allocInv_resetBlock (s : State) : AllocInv (s.resetBlock cvs) :=
  AllocInv.congr allocInv_reset rfl rfl rfl rfl rfl rfl

/-! ### Every move -/

theorem allocInv_stolen {s : State} (hs : AllocInv s) (k : SlotId) (h : Handle) : AllocInv (s.stolen k h) := by
  simp only [State.stolen]
  split
  · rename_i ha
    exact AllocInv.congr (allocInv_freed hs ha) rfl rfl rfl rfl rfl rfl
  · exact AllocInv.congr hs rfl rfl rfl rfl rfl rfl

theorem allocInv_move {i : Instr} {s t : State} (hs : AllocInv s) (hm : Move i s t) : AllocInv t := by
  cases hm with
  | registers e => exact AllocInv.of_frame hs e
  | voice | patch => exact AllocInv.congr hs rfl rfl rfl rfl rfl rfl
  | silence => exact AllocInv.of_frame (allocInv_stolen hs _ _) (frame_silenced ..)
  | free _ ha => exact allocInv_freed hs ha
  | alloc _ ha => exact allocInv_allocated hs ha
  | steal => exact allocInv_stolen hs _ _
  | start _ _ ha => exact AllocInv.congr (allocInv_allocated hs ha) rfl rfl rfl rfl rfl rfl
  | percOn _ hoff h6 h7 h8 => exact allocInv_percOn hs hoff h6 h7 h8
  | percOff _ hon => exact allocInv_percOff hs hon
  | init => exact allocInv_resetBlock s
  | probe _ e =>
    exact AllocInv.congr hs (congrArg Frame.ctype e) (congrArg Frame.allocd e) (congrArg Frame.free2 e)
      (congrArg Frame.free4 e) (congrArg Frame.percEnabled e) (congrArg Frame.fourOpMask e)

/-- Settles O18: each move of a command keeps the invariant, and a reset event establishes it. -/
theorem allocInvKept : Obligations.AllocInvKept := by
  intro s t hs hstep
  cases stepTo_of_step hstep with
  | idle => exact hs
  | accept | reserved => exact AllocInv.congr hs rfl rfl rfl rfl rfl rfl
  | command e => exact exec_keeps allocInv_move hs e
  | reset => exact allocInv_resetBlock _
  | cut => exact AllocInv.congr allocInv_reset rfl rfl rfl rfl rfl rfl

/-! ### The partition and the capacity (R24, R25) -/

/-- A TwoOp channel is in exactly one of three places. -/
theorem one_of_three {a b c : Bool} : a.toNat + b.toNat + c.toNat = 1 →
    (a = true ∧ b = false ∧ c = false) ∨ (a = false ∧ b = true ∧ c = false) ∨ (a = false ∧ b = false ∧ c = true) := by
  revert a b c; decide

/-- The class that a channel's type and places name. -/
def classAt (s : State) (c : PhysId) : ChannelClass :=
  if s.allocd[physHandle c] then .allocated
  else
    match s.ctype[c] with
    | .null => .absorbed
    | .fourOp => .free4op
    | .twoOp => if s.free2[c] then .free2op else .percussionReserved

/-- The classes exclude each other. -/
theorem eq_classAt_of_inClass {s : State} {c : PhysId} {k : ChannelClass} (h : inClass s c k) : k = classAt s c := by
  cases k with
  | allocated =>
    obtain ⟨ha, -⟩ := h
    simp only [classAt, ha, if_true]
  | free2op =>
    obtain ⟨h2, ht, ha⟩ := h
    rw [classAt, ha, ht, h2]; rfl
  | free4op =>
    obtain ⟨-, ht, ha⟩ := h
    rw [classAt, ha, ht]; rfl
  | percussionReserved =>
    obtain ⟨-, -, ht, ha, h2, -⟩ := h
    rw [classAt, ha, ht, h2]; rfl
  | absorbed =>
    obtain ⟨ht, -, ha, -⟩ := h
    rw [classAt, ha, ht]; rfl

theorem percReserved_iff {s : State} {c : PhysId} :
    percReserved s c = true ↔ s.percEnabled = true ∧ (c = 6 ∨ c = 7 ∨ c = 8) := by
  simp [percReserved, Fin.ext_iff, or_assoc]

/-- In the invariant every channel is in a class. -/
theorem exists_class {s : State} (hs : AllocInv s) (c : PhysId) : ∃ k, inClass s c k := by
  have hfits := fits_of_allocInv hs c
  cases ht : s.ctype[c] with
  | null =>
    rw [ht] at hfits
    obtain ⟨hsec, ha, h2, h4⟩ := hfits
    obtain ⟨j, rfl⟩ := exists_pair_of_isSecondary hsec
    exact ⟨.absorbed, ht, ⟨j, rfl, (null_iff hs j).1 ht⟩, ha, h2, h4⟩
  | fourOp =>
    rw [ht] at hfits
    obtain ⟨-, h2, ha⟩ := hfits
    cases h4 : s.free4[c] with
    | true => exact ⟨.free4op, h4, ht, by rw [ha, h4]; rfl⟩
    | false => exact ⟨.allocated, by rw [ha, h4]; rfl, .inr ht, h2, h4⟩
  | twoOp =>
    rw [ht] at hfits
    obtain ⟨h4, hsum⟩ := hfits
    obtain ⟨ha, h2, -⟩ | ⟨ha, h2, -⟩ | ⟨ha, h2, hr⟩ := one_of_three hsum
    · exact ⟨.allocated, ha, .inl ht, h2, h4⟩
    · exact ⟨.free2op, h2, ht, ha⟩
    · obtain ⟨hon, hc⟩ := percReserved_iff.1 hr
      exact ⟨.percussionReserved, hon, hc, ht, ha, h2, h4⟩

/-- What one channel counts in the capacity (R25). -/
def weight (s : State) (c : PhysId) : Nat :=
  (s.free2[c]).toNat + 2 * (s.free4[c]).toNat
    + (if s.allocd[physHandle c] = true ∧ s.ctype[c] = .twoOp then 1 else 0)
    + (if s.allocd[physHandle c] = true ∧ s.ctype[c] = .fourOp then 2 else 0)

theorem weight_twoOp {s : State} (hs : AllocInv s) {c : PhysId} (ht : s.ctype[c] = .twoOp) :
    weight s c + (percReserved s c).toNat = 1 := by
  have hfits := fits_of_allocInv hs c
  rw [ht] at hfits
  obtain ⟨h4, hsum⟩ := hfits
  obtain ⟨ha, h2, hr⟩ | ⟨ha, h2, hr⟩ | ⟨ha, h2, hr⟩ := one_of_three hsum <;>
    simp only [weight, ht, ha, h2, h4, hr] <;> rfl

theorem weight_fourOp {s : State} (hs : AllocInv s) {c : PhysId} (ht : s.ctype[c] = .fourOp) : weight s c = 2 := by
  have hfits := fits_of_allocInv hs c
  rw [ht] at hfits
  obtain ⟨-, h2, ha⟩ := hfits
  cases h4 : s.free4[c] <;> simp [weight, ht, ha, h2, h4]

theorem weight_null {s : State} (hs : AllocInv s) {c : PhysId} (ht : s.ctype[c] = .null) : weight s c = 0 := by
  have hfits := fits_of_allocInv hs c
  rw [ht] at hfits
  obtain ⟨-, ha, h2, h4⟩ := hfits
  simp [weight, ht, ha, h2, h4]

/-- Only primaries may be FourOp and only secondaries Null (R21). -/
theorem ctype_twoOp {s : State} (hs : AllocInv s) {c : PhysId} (h4 : isPrimary c = false ∨ s.ctype[c] ≠ .fourOp)
    (h0 : isSecondary c = false ∨ s.ctype[c] ≠ .null) : s.ctype[c] = .twoOp := by
  have hfits := fits_of_allocInv hs c
  cases ht : s.ctype[c] with
  | twoOp => rfl
  | fourOp => rw [ht] at hfits; simp [hfits.1, ht] at h4
  | null => rw [ht] at hfits; simp [hfits.1, ht] at h0

/-- A pair counts two, whole or in halves. -/
theorem weight_pair {s : State} (hs : AllocInv s) (j : PairId) :
    weight s cvs.pairs[j].1 + weight s cvs.pairs[j].2 = 2 := by
  have hnull := null_iff hs j
  by_cases h4 : s.ctype[cvs.pairs[j].1] = .fourOp
  · rw [weight_fourOp hs h4, weight_null hs (hnull.2 h4)]
  · have hdisjoint : ∀ j : PairId, isSecondary cvs.pairs[j].1 = false ∧ isPrimary cvs.pairs[j].2 = false := by decide
    have h1 := weight_twoOp hs (ctype_twoOp hs (.inr h4) (.inl (hdisjoint j).1))
    have h2 := weight_twoOp hs (ctype_twoOp hs (.inl (hdisjoint j).2) (.inr (hnull.not.2 h4)))
    rw [not_reserved_primary, Bool.toNat_false, Nat.add_zero] at h1
    rw [not_reserved_secondary, Bool.toNat_false, Nat.add_zero] at h2
    rw [h1, h2]

/-- A channel of no pair counts one, unless percussion mode reserves it. -/
theorem weight_single {s : State} (hs : AllocInv s) {c : PhysId} (hp : isPrimary c = false) (hsec : isSecondary c = false) :
    weight s c + (percReserved s c).toNat = 1 := weight_twoOp hs (ctype_twoOp hs (.inl hp) (.inl hsec))

theorem sum_channels (f : PhysId → Nat) : ((List.finRange 18).map f).sum =
    (f 0 + f 3) + (f 1 + f 4) + (f 2 + f 5) + (f 9 + f 12) + (f 10 + f 13) + (f 11 + f 14)
      + (f 6 + f 7 + f 8) + (f 15 + f 16 + f 17) := by
  simp only [List.finRange_succ, List.finRange_zero, List.map_cons, List.map_nil, List.sum_cons, List.sum_nil]
  change f 0 + (f 1 + (f 2 + (f 3 + (f 4 + (f 5 + (f 6 + (f 7 + (f 8 + (f 9 + (f 10 + (f 11 + (f 12 + (f 13 + (f 14
    + (f 15 + (f 16 + (f 17 + 0))))))))))))))))) = _
  omega

theorem capacity_eq {s : State} (hs : AllocInv s) : capacity s = 18 := by
  have hsum : capacity s = ((List.finRange 18).map (weight s)).sum + (if s.percEnabled then 3 else 0) := rfl
  rw [hsum, sum_channels]
  have h0 : weight s 0 + weight s 3 = 2 := weight_pair hs 0
  have h1 : weight s 1 + weight s 4 = 2 := weight_pair hs 1
  have h2 : weight s 2 + weight s 5 = 2 := weight_pair hs 2
  have h3 : weight s 9 + weight s 12 = 2 := weight_pair hs 3
  have h4 : weight s 10 + weight s 13 = 2 := weight_pair hs 4
  have h5 : weight s 11 + weight s 14 = 2 := weight_pair hs 5
  have hsingle (c : PhysId) : isPrimary c = false → isSecondary c = false →
      weight s c + (s.percEnabled && reservable c).toNat = 1 := weight_single hs
  have h6 := hsingle 6 rfl rfl
  have h7 := hsingle 7 rfl rfl
  have h8 := hsingle 8 rfl rfl
  have h15 := hsingle 15 rfl rfl
  have h16 := hsingle 16 rfl rfl
  have h17 := hsingle 17 rfl rfl
  cases hp : s.percEnabled <;> simp [hp, reservable] at h6 h7 h8 h15 h16 h17 ⊢ <;> omega

/-- Settles O20: the places of `chanOk` are the classes of R24, and pairs and single channels count 18. -/
theorem partitionAndCapacity : Obligations.PartitionAndCapacity := by
  refine fun s hs => ⟨fun c => ?_, mask_iff hs, capacity_eq hs⟩
  obtain ⟨k, hk⟩ := exists_class hs c
  exact ⟨k, hk, fun k' hk' => (eq_classAt_of_inClass hk').trans (eq_classAt_of_inClass hk).symm⟩

end Sys2Proof.AllocatorInvariant
end

section
/-! The slots (R35, R37, R38), the patches (R40), and who may change what (R26, R27, R150, R181). -/

namespace Sys2Proof.SlotInvariant

open Sys2Proof.Machine Sys2Proof.Steps Sys2Proof.Allocation Sys2Proof.CommandMoves Sys2Proof.AllocatorInvariant

/-! ### A slot is always Free (R38) -/

/-- Slots that are all bound hold every handle: as many slots as handles, and no handle twice. -/
theorem every_handle_held {s : State} (hs : SlotInv s) (hfull : ∀ k : SlotId, s.slot[k].lchan ≠ none) (h : Handle) :
    s.allocd[h] = true := by
  choose handle hhandle using fun k => Option.ne_none_iff_exists'.1 (hfull k)
  have hinj : Function.Injective handle := fun k l e => hs.2 k l (handle l) (e ▸ hhandle k) (hhandle l)
  obtain ⟨k, rfl⟩ := Finite.surjective_of_injective hinj h
  exact hs.1 k _ (hhandle k)

/-- Settles O22: were every slot bound, every handle would be held, a reserved channel and every role among them. -/
theorem slotAlwaysFree : Obligations.SlotAlwaysFree := by
  intro s halloc hs hroles
  by_contra hfull
  have hheld := every_handle_held hs (not_exists.1 hfull)
  cases hp : s.percEnabled with
  | false => exact Bool.false_ne_true ((hroles hp 0).symm.trans (hheld _))
  | true =>
    have hfits := fits_of_allocInv halloc 6
    rw [hheld, show percReserved s 6 = true by simp [percReserved, hp]] at hfits
    obtain ⟨-, hfree, -⟩ := hfits.of_reserved rfl rfl
    exact Bool.false_ne_true hfree.symm

/-! ### The slot invariant through the moves (R37) -/

theorem SlotInv.congr {s t : State} (h : SlotInv s) (ha : t.allocd = s.allocd)
    (hl : ∀ k : SlotId, t.slot[k].lchan = s.slot[k].lchan) : SlotInv t := by
  refine ⟨fun k g hk => ?_, fun k l g hk hl' => h.2 k l g (hl k ▸ hk) (hl l ▸ hl')⟩
  rw [ha]
  exact h.1 k g (hl k ▸ hk)

theorem SlotInv.of_frame {s t : State} (h : SlotInv s) (e : frame t = frame s) : SlotInv t := by
  have hslot : t.slot = s.slot := congrArg Frame.slot e
  exact SlotInv.congr h (congrArg Frame.allocd e) fun k => by rw [hslot]

/-- Handing out a handle leaves the slots alone and makes it held; in the allocator's invariant it was not (R22). -/
theorem slot_allocated {s u : State} {h : Handle} (ha : Allocated s h u) : u.slot = s.slot := by
  cases ha <;> rfl

theorem allocd_allocated {s u : State} {h : Handle} (ha : Allocated s h u) : u.allocd = s.allocd.set h true := by
  cases ha <;> rfl

theorem fresh_of_allocated {s u : State} {h : Handle} (hs : AllocInv s) (ha : Allocated s h u) : s.allocd[h] = false := by
  have fresh2 {c : PhysId} (hc : s.free2[c] = true) : s.allocd[physHandle c] = false := by
    have hfits := fits_of_allocInv hs c
    rw [hc] at hfits
    obtain ⟨-, ha, -, -⟩ := hfits.of_in2
    exact ha
  have fresh4 {c : PhysId} (hc : s.free4[c] = true) : s.allocd[physHandle c] = false := by
    have hfits := fits_of_allocInv hs c
    rw [hc] at hfits
    obtain ⟨-, ha, -⟩ := hfits.of_in4
    exact ha
  cases ha with
  | pool2 c hc => exact fresh2 hc
  | pool4 c hc => exact fresh4 hc
  | split j hj => exact fresh4 hj
  | merge j hc => exact fresh2 hc
  | role r _ ha => exact ha

theorem allocd_stolen {s : State} {h : Handle} (ha : s.allocd[h] = true) (k : SlotId) :
    (s.stolen k h).allocd = s.allocd.set h false := by
  simp only [State.stolen, ha, if_true, allocd_freed]

/-- The handle of one slot given back and the slot unbound: no other slot has that handle. -/
theorem slotInv_stolen {s : State} (hs : SlotInv s) {k : SlotId} {h : Handle} (hk : s.slot[k].lchan = some h) :
    SlotInv (s.stolen k h) := by
  have hbound : ∀ (l : SlotId) (g : Handle), (s.stolen k h).slot[l].lchan = some g → l ≠ k ∧ s.slot[l].lchan = some g := by
    intro l g hl
    rw [slot_stolen, get_set] at hl
    split at hl
    · cases hl
    · exact ⟨by assumption, hl⟩
  refine ⟨fun l g hl => ?_, fun l m g hl hm => hs.2 l m g (hbound l g hl).2 (hbound m g hm).2⟩
  obtain ⟨hne, hl⟩ := hbound l g hl
  have hgh : g ≠ h := fun e => hne (hs.2 l k h (e ▸ hl) hk)
  rw [allocd_stolen (hs.1 k h hk), get_set, if_neg hgh]
  exact hs.1 l g hl

/-- A handle that no slot has may be given back (R311). -/
theorem slotInv_freed {s : State} (hs : SlotInv s) {h : Handle} (hfree : ∀ k : SlotId, s.slot[k].lchan ≠ some h) :
    SlotInv (s.freed h) := by
  have hslot := slot_freed s h
  refine ⟨fun k g hk => ?_, fun k l g hk hl => hs.2 k l g (hslot ▸ hk) (hslot ▸ hl)⟩
  rw [hslot] at hk
  have hgh : g ≠ h := fun e => hfree k (e ▸ hk)
  rw [allocd_freed, get_set, if_neg hgh]
  exact hs.1 k g hk

theorem slotInv_allocated {s u : State} {h : Handle} (hs : SlotInv s) (ha : Allocated s h u) : SlotInv u := by
  have hslot := slot_allocated ha
  refine ⟨fun k g hk => ?_, fun k l g hk hl => hs.2 k l g (hslot ▸ hk) (hslot ▸ hl)⟩
  rw [hslot] at hk
  rw [allocd_allocated ha, get_set]
  split
  · rfl
  · exact hs.1 k g hk

/-- A fresh handle bound to one slot: no slot had it (R172). -/
theorem slotInv_start {s u : State} {h : Handle} {k : SlotId} {x : Slot} (hs : SlotInv s) (hfresh : s.allocd[h] = false)
    (ha : Allocated s h u) (hx : x.lchan = some h) : SlotInv (u.updSlot k (fun _ => x)) := by
  have hlchan (l : SlotId) : (u.updSlot k (fun _ => x)).slot[l].lchan = if l = k then some h else s.slot[l].lchan := by
    rw [updSlot_slot, slot_allocated ha, get_set]
    split
    · exact hx
    · rfl
  have hother {l : SlotId} {g : Handle} (hl : s.slot[l].lchan = some g) : g ≠ h := by
    rintro rfl
    exact Bool.false_ne_true (hfresh.symm.trans (hs.1 l g hl))
  refine ⟨fun l g hl => ?_, fun l m g hl hm => ?_⟩
  · rw [updSlot_allocd, allocd_allocated ha, get_set]
    rw [hlchan] at hl
    split at hl
    · rw [if_pos (Option.some.inj hl).symm]
    · rw [if_neg (hother hl)]
      exact hs.1 l g hl
  · rw [hlchan] at hl hm
    split at hl <;> split at hm
    · rename_i hlk hmk
      exact hlk.trans hmk.symm
    · exact absurd (Option.some.inj hl).symm (hother hm)
    · exact absurd (Option.some.inj hm).symm (hother hl)
    · exact hs.2 l m g hl hm

theorem slotInv_of_free {s : State} (h : ∀ k : SlotId, s.slot[k].lchan = none) : SlotInv s :=
  ⟨fun k g hk => absurd ((h k).symm.trans hk) (Option.some_ne_none g).symm,
    fun k _ g hk => absurd ((h k).symm.trans hk) (Option.some_ne_none g).symm⟩

theorem reset_slot (k : SlotId) : State.reset.slot[k] = slotReset := by simp [State.reset, State.resetWith]

theorem slotInv_resetBlock (s : State) : SlotInv (s.resetBlock cvs) :=
  slotInv_of_free fun k => by rw [resetBlock_slot, reset_slot]; rfl

/-- Every move but FREE's own keeps the slot invariant. -/
theorem slotInv_move {i : Instr} {s t : State} (hi : ∀ a, i ≠ .free a) (halloc : AllocInv s) (hs : SlotInv s)
    (hm : Move i s t) : SlotInv t := by
  cases hm with
  | registers e => exact SlotInv.of_frame hs e
  | @voice k f _ _ hsame =>
    refine SlotInv.congr hs rfl fun l => ?_
    rw [updSlot_slot, get_set]
    split
    · rename_i hl
      rw [hsame.1, hl]
    · rfl
  | patch | percOn | percOff => exact SlotInv.congr hs rfl fun _ => rfl
  | silence _ hk => exact SlotInv.of_frame (slotInv_stolen hs hk) (frame_silenced ..)
  | free h => exact absurd h (hi _)
  | alloc _ ha => exact slotInv_allocated hs ha
  | steal _ hk => exact slotInv_stolen hs hk
  | start _ _ ha hx => exact slotInv_start hs (fresh_of_allocated halloc ha) ha hx.1
  | init => exact slotInv_resetBlock s
  | probe _ e =>
    have hslot : t.slot = s.slot := congrArg Frame.slot e
    exact SlotInv.congr hs (congrArg Frame.allocd e) fun k => by rw [hslot]

theorem slotInv_moves {i : Instr} {s t : State} (hi : ∀ a, i ≠ .free a) (halloc : AllocInv s) (hs : SlotInv s)
    (hm : Moves i s t) : SlotInv t :=
  (Moves.keeps (P := fun u => AllocInv u ∧ SlotInv u)
    (fun hu hm => ⟨allocInv_move hu.1 hm, slotInv_move hi hu.1 hu.2 hm⟩) ⟨halloc, hs⟩ hm).2

/-- FREE gives back the handle its operand names, or is refused (R126). -/
theorem exec_free {a : Byte} {s t : State} (e : exec (.free a) s = .next t) :
    frame t = frame s ∨ ∃ h : Handle, a.toNat = h.val ∧ frame t = frame (s.freed h) := by
  simp only [exec, execFree, withHandle] at e
  split at e
  · exact .inl (Host.Outcome.next.inj e ▸ rfl)
  · rename_i h hh
    by_cases ha : s.allocd[h] = true
    · rw [freeHandle_ok_iff.2 ⟨ha, rfl⟩] at e
      exact .inr ⟨h, handleOf_eq_some.1 hh, Host.Outcome.next.inj e ▸ rfl⟩
    · rw [freeHandle, if_neg ha] at e
      exact .inl (Host.Outcome.next.inj e ▸ rfl)

/-- Settles O21: a fresh handle is bound by NOTE_ON, a silenced or stolen voice gives its handle and its slot back
together, and the premise keeps FREE from the handle of a slot. -/
theorem slotInvKept : Obligations.SlotInvKept := by
  intro i s t halloc hs hfree e
  by_cases hi : ∃ a, i = .free a
  · obtain ⟨a, rfl⟩ := hi
    obtain hsame | ⟨h, hah, hfreed⟩ := exec_free e
    · exact SlotInv.of_frame hs hsame
    · exact SlotInv.of_frame (slotInv_freed hs fun k hk => hfree a rfl k h hk hah) hfreed
  · obtain ⟨j, hj, hij, hexec⟩ := exec_actsAs i
    refine slotInv_moves (fun a hja => ?_) halloc hs (exec_moves hj (hexec s ▸ e))
    rcases hij with rfl | hv
    · exact hi ⟨a, hja⟩
    · rw [hja] at hv
      cases hv

/-! ### Patches and slot contents (R35, R40, R244) -/

/-- One slot's part of `SlotClean`. -/
def Clean (x : Slot) : Prop := (x.lchan = none → x = slotReset) ∧ (x.releasing = false → x.releaseDuration = 0)

theorem clean_slotReset : Clean slotReset := ⟨fun _ => rfl, fun _ => rfl⟩

theorem Clean.of_boundTo {x : Slot} {h : Handle} (hx : BoundTo h x) : Clean x :=
  ⟨fun hn => absurd (hx.1.symm.trans hn) (Option.some_ne_none h), fun _ => hx.2.2⟩

theorem Clean.of_sameVoice {x y : Slot} (hx : Clean x) (hbound : x.lchan ≠ none) (hy : SameVoice x y) : Clean y := by
  refine ⟨fun hn => absurd (hy.1.symm.trans hn) hbound, fun hr => ?_⟩
  obtain ⟨hrel, hdur⟩ := hy.2 hr
  exact hdur.trans (hx.2 hrel)

theorem slotClean_set {s t : State} (hs : SlotClean s) {k : SlotId} {x : Slot} (hx : Clean x)
    (ht : t.slot = s.slot.set k x) : SlotClean t := by
  intro l
  rw [ht, get_set]
  split
  · exact hx
  · exact hs l

theorem slotClean_of_slot_eq {s t : State} (hs : SlotClean s) (ht : t.slot = s.slot) : SlotClean t := by
  intro l
  rw [ht]
  exact hs l

theorem slotClean_reset : SlotClean State.reset := by
  intro k
  rw [reset_slot]
  exact clean_slotReset

theorem slotClean_move {i : Instr} {s t : State} (hs : SlotClean s) (hm : Move i s t) : SlotClean t := by
  cases hm with
  | registers e => exact slotClean_of_slot_eq hs (congrArg Frame.slot e)
  | @voice k f _ hbound hsame => exact slotClean_set hs (Clean.of_sameVoice (hs k) hbound hsame) rfl
  | patch | percOn | percOff => exact slotClean_of_slot_eq hs rfl
  | @silence k h =>
    have hslot : (s.silenced k h).slot = (s.stolen k h).slot := congrArg Frame.slot (frame_silenced s k h)
    exact slotClean_set hs clean_slotReset (hslot.trans (slot_stolen ..))
  | free => exact slotClean_of_slot_eq hs (slot_freed ..)
  | alloc _ ha => exact slotClean_of_slot_eq hs (slot_allocated ha)
  | steal => exact slotClean_set hs clean_slotReset (slot_stolen ..)
  | start _ _ ha hx =>
    exact slotClean_set hs (Clean.of_boundTo hx) (by rw [updSlot_slot, slot_allocated ha])
  | init => exact slotClean_of_slot_eq slotClean_reset rfl
  | probe _ e => exact slotClean_of_slot_eq hs (congrArg Frame.slot e)

theorem patchInv_of_patch_eq {s t : State} (hs : PatchInv s) (ht : t.patch = s.patch) : PatchInv t := by
  intro m
  rw [ht]
  exact hs m

theorem patchInv_reset : PatchInv State.reset := by
  intro m
  have hpatch : State.reset.patch[m] = patchDefault := by simp [State.reset, State.resetWith, cvs]
  rw [hpatch]
  exact ⟨by decide, by decide, by decide, by decide⟩

theorem patch_stolen (s : State) (k : SlotId) (h : Handle) : (s.stolen k h).patch = s.patch := by
  obtain ⟨_, _, _, hstolen⟩ := frame_stolen s k h
  exact congrArg Frame.patch hstolen

theorem patch_freed (s : State) (h : Handle) : (s.freed h).patch = s.patch := by
  obtain ⟨_, _, _, hfreed⟩ := frame_freed s h
  exact congrArg Frame.patch hfreed

theorem patch_allocated {s u : State} {h : Handle} (ha : Allocated s h u) : u.patch = s.patch := by
  cases ha <;> rfl

theorem patchInv_move {i : Instr} {s t : State} (hs : PatchInv s) (hm : Move i s t) : PatchInv t := by
  cases hm with
  | registers e | probe _ e => exact patchInv_of_patch_eq hs (congrArg Frame.patch e)
  | @patch m f _ hf =>
    intro n
    rw [updPatch_patch, get_set]
    split
    · exact hf (hs m)
    · exact hs n
  | voice | percOn | percOff => exact patchInv_of_patch_eq hs rfl
  | @silence k h =>
    have hpatch : (s.silenced k h).patch = (s.stolen k h).patch := congrArg Frame.patch (frame_silenced s k h)
    exact patchInv_of_patch_eq hs (hpatch.trans (patch_stolen ..))
  | free => exact patchInv_of_patch_eq hs (patch_freed ..)
  | alloc _ ha => exact patchInv_of_patch_eq hs (patch_allocated ha)
  | steal => exact patchInv_of_patch_eq hs (patch_stolen ..)
  | start _ _ ha => exact patchInv_of_patch_eq hs ((updSlot_patch ..).trans (patch_allocated ha))
  | init => exact patchInv_of_patch_eq patchInv_reset rfl

/-- What every move keeps and the reset values meet, a step keeps, if it depends on patches and slots alone. -/
theorem step_keeps {P : State → Prop} (hmove : ∀ {i s t}, P s → Move i s t → P t) (hreset : P State.reset)
    (hcongr : ∀ {s t : State}, P s → t.patch = s.patch → t.slot = s.slot → P t) {s t : State} (hs : P s)
    (hstep : step s = .next t) : P t := by
  cases stepTo_of_step hstep with
  | idle => exact hs
  | accept | reserved => exact hcongr hs rfl rfl
  | command e => exact exec_keeps hmove hs e
  | reset | cut => exact hcongr hreset rfl rfl

/-- Settles O23: each move keeps patches legal and slots clean, and the chip's list is what the trace makes of it. -/
theorem dataInvariantsKept : Obligations.DataInvariantsKept := fun _ _ hstep =>
  ⟨fun h => step_keeps patchInv_move patchInv_reset (fun hs hp _ => patchInv_of_patch_eq hs hp) h hstep,
    fun h => step_keeps slotClean_move slotClean_reset (fun hs _ hl => slotClean_of_slot_eq hs hl) h hstep,
    fun h => Trace.wf_step hstep h⟩

/-! ### The reset state (R50) -/

theorem holdsResetValues_reset : HoldsResetValues State.reset := by
  simp [HoldsResetValues, State.reset, State.resetWith, chanReset, operReset, slotReset, cvs, patchDefault, templateDefault]

/-- Settles O19: the reset values, and each invariant of them. -/
theorem resetMeetsInvariants : Obligations.ResetMeetsInvariants :=
  ⟨holdsResetValues_reset, allocInv_reset, slotInv_of_free fun k => by rw [reset_slot]; rfl, slotClean_reset,
    patchInv_reset, Memory.wf_reset, rfl⟩

end Sys2Proof.SlotInvariant
end

section
/-! Who may change what (R26, R27, R150, R181, R277, R303). -/

namespace Sys2Proof.MayChange

open Sys2Proof.Machine Sys2Proof.Allocation Sys2Proof.CommandMoves

/-- What command `i`, which is not INIT, leaves as it was between two frames (R26, R27, R150, R181). -/
structure Within (i : Instr) (f g : Frame) : Prop where
  types : allocates i = false → g.ctype = f.ctype ∧ g.fourOpMask = f.fourOpMask
  mode : i ≠ .percEnable → i ≠ .percDisable → g.percEnabled = f.percEnabled
  patches : writesPatches i = false → g.patch = f.patch
  slots : isVoiceManager i = false → g.slot = f.slot
  handles : movesHandles i = false → g.allocd = f.allocd ∧ g.free4 = f.free4
  pool2 : movesHandles i = false → i ≠ .percEnable → i ≠ .percDisable → g.free2 = f.free2
  reads : i ≠ .detect → g.reads = f.reads

theorem Within.refl (i : Instr) (f : Frame) : Within i f f where
  types _ := ⟨rfl, rfl⟩
  mode _ _ := rfl
  patches _ := rfl
  slots _ := rfl
  handles _ := ⟨rfl, rfl⟩
  pool2 _ _ _ := rfl
  reads _ := rfl

theorem Within.trans {i : Instr} {f g k : Frame} (h : Within i f g) (h' : Within i g k) : Within i f k where
  types ha := ⟨(h'.types ha).1.trans (h.types ha).1, (h'.types ha).2.trans (h.types ha).2⟩
  mode he hd := (h'.mode he hd).trans (h.mode he hd)
  patches hw := (h'.patches hw).trans (h.patches hw)
  slots hv := (h'.slots hv).trans (h.slots hv)
  handles hm := ⟨(h'.handles hm).1.trans (h.handles hm).1, (h'.handles hm).2.trans (h.handles hm).2⟩
  pool2 hm he hd := (h'.pool2 hm he hd).trans (h.pool2 hm he hd)
  reads hd := (h'.reads hd).trans (h.reads hd)

section Moves
variable {i : Instr} {f : Frame}

theorem within_slot (hv : isVoiceManager i = true) (slot : Vector Slot 23) : Within i f { f with slot := slot } :=
  { Within.refl i f with slots := fun h => absurd hv (Bool.eq_false_iff.1 h) }

theorem within_patch (hw : writesPatches i = true) (patch : Vector Patch 16) : Within i f { f with patch := patch } :=
  { Within.refl i f with patches := fun h => absurd hw (Bool.eq_false_iff.1 h) }

/-- A command that moves handles may change the handles held and the pools. -/
theorem within_handles (hm : movesHandles i = true) (allocd : Vector Bool 23) (free2 free4 : Vector Bool 18) :
    Within i f { f with allocd := allocd, free2 := free2, free4 := free4 } :=
  { Within.refl i f with
    handles := fun h => absurd hm (Bool.eq_false_iff.1 h), pool2 := fun h => absurd hm (Bool.eq_false_iff.1 h) }

/-- A command that allocates may change the types and the mask too. -/
theorem within_allocated {s u : State} {h : Handle} (hi : allocates i = true) (hm : movesHandles i = true)
    (ha : Allocated s h u) : Within i (frame s) (frame u) := by
  obtain ⟨c, a, f2, f4, m, hu⟩ := frame_allocated ha
  rw [hu]
  exact (within_handles hm a f2 f4).trans
    { Within.refl i _ with types := fun h => absurd hi (Bool.eq_false_iff.1 h) }

theorem within_stolen (hm : movesHandles i = true) (hv : isVoiceManager i = true) (s : State) (k : SlotId) (h : Handle) :
    Within i (frame s) (frame (s.stolen k h)) := by
  obtain ⟨a, f2, f4, hs⟩ := frame_stolen s k h
  rw [hs]
  exact (within_handles hm a f2 f4).trans (within_slot hv _)

theorem within_perc (hi : i = .percEnable ∨ i = .percDisable) (mode : Bool) (free2 : Vector Bool 18) :
    Within i f { f with percEnabled := mode, free2 := free2 } :=
  { Within.refl i f with
    mode := fun he hd => (hi.elim he hd).elim, pool2 := fun _ he hd => (hi.elim he hd).elim }

/-- NOTE_ON allocates, moves handles and is of the voice manager. -/
theorem noteOn_classes (hi : isNoteOn i = true) :
    allocates i = true ∧ movesHandles i = true ∧ isVoiceManager i = true := by
  cases i with
  | noteOn => exact ⟨rfl, rfl, rfl⟩
  | _ => cases hi

/-- Each move is of a command that may make the change. -/
theorem within_move {s t : State} (hinit : i ≠ .init) (hm : Move i s t) : Within i (frame s) (frame t) := by
  cases hm with
  | registers e => exact e ▸ Within.refl i _
  | voice hv => exact within_slot hv _
  | patch hw => exact within_patch hw _
  | silence hs =>
    obtain ⟨hv, hm⟩ := Bool.and_eq_true_iff.1 hs
    exact frame_silenced s _ _ ▸ within_stolen hm hv s _ _
  | @free _ h hi =>
    obtain ⟨a, f2, f4, hs⟩ := frame_freed s h
    exact hs ▸ within_handles (by rw [hi]; rfl) a f2 f4
  | alloc hi ha => exact within_allocated (by rw [hi]; rfl) (by rw [hi]; rfl) ha
  | steal hi =>
    obtain ⟨-, hm, hv⟩ := noteOn_classes hi
    exact within_stolen hm hv s _ _
  | start hi _ ha =>
    obtain ⟨hall, hm, hv⟩ := noteOn_classes hi
    exact (within_allocated hall hm ha).trans (within_slot hv _)
  | percOn hi => exact within_perc (.inl hi) _ _
  | percOff hi => exact within_perc (.inr hi) _ _
  | init hi => exact absurd hi hinit
  | probe hi e => exact e ▸ { Within.refl i _ with reads := fun h => absurd hi h }

end Moves

theorem within_exec {i : Instr} {s t : State} (hw : i.wf cvs = true) (hinit : i ≠ .init) (e : exec i s = .next t) :
    Within i (frame s) (frame t) :=
  Moves.keeps (P := fun u => Within i (frame s) (frame u)) (fun hu hm => hu.trans (within_move hinit hm))
    (Within.refl i _) (exec_moves hw e)

/-- Settles O26: each change of the frame is a move that only the named commands make. -/
theorem whoMayChange : Obligations.WhoMayChange := by
  intro i s t hw e hinit
  have h := within_exec hw hinit e
  exact ⟨h.types, h.mode, h.patches, h.slots, fun hm => ⟨(h.handles hm).1, (h.handles hm).2, h.pool2 hm⟩, h.reads⟩

end Sys2Proof.MayChange
end

section
/-! The register write on the bus (R62, R63), and the registers that a command writes (R64). -/

namespace Sys2Proof.RegisterWrites

open Sys2Proof.Machine Sys2Proof.Allocation Sys2Proof.Trace Sys2Proof.Cache

/-! ### The ports, wherever `BASE` is (R62, R67) -/

section Ports
variable (cfg : Config.Params)

theorem aport_inj (x y : SetId) : aport cfg x = aport cfg y ↔ x = y := by
  simp only [aport, BitVec.add_right_inj]
  revert x y
  decide

theorem dport_inj (x y : SetId) : dport cfg x = dport cfg y ↔ x = y := by
  simp only [dport, BitVec.add_right_inj]
  revert x y
  decide

/-- No data port is an address port, even where the four ports wrap around the address space. -/
theorem dport_ne_aport (x y : SetId) : dport cfg x ≠ aport cfg y := by
  simp only [dport, aport, ne_eq, BitVec.add_right_inj]
  revert x y
  decide

/-- A write to an address port loads the latch of its set (R31 (b)). -/
theorem chipWrite_aport (x : SetId) (data : Byte) (s : State) :
    chipWrite cfg (aport cfg x) data s = { s with latch := s.latch.set x data } := by
  match x with
  | 0 | 1 => simp [chipWrite, aport_inj]

/-- A write to a data port stores in the register that the latch of its set selects (R31 (b)). -/
theorem chipWrite_dport (x : SetId) (data : Byte) (s : State) :
    chipWrite cfg (dport cfg x) data s =
      { s with chipRegs := Memory.write s.chipRegs (chipAddr x s.latch[x]) data } := by
  match x with
  | 0 | 1 => simp [chipWrite, dport_ne_aport, dport_inj]

/-- A register write under any parameters: select, then data (R63). -/
theorem regWrite_transactions (x : SetId) (reg val : Byte) (s : State) :
    regWrite cfg x reg val s = { s with
      trace := s.trace ++ [.write (aport cfg x) reg, .write (dport cfg x) val]
      latch := s.latch.set x reg
      chipRegs := Memory.write s.chipRegs (chipAddr x reg) val } := by
  simp [regWrite, busWrite, chipWrite_aport, chipWrite_dport]

end Ports

/-- With `BASE` = 0x388 the data ports are 0x389 and 0x38B (R62). -/
theorem dport_cvs (x : SetId) : dport cvs x = 0x389 + BitVec.ofNat 16 (2 * x.val) := by
  revert x
  decide

/-- Settles O10: an address port sets the latch that the data port then reads, for every `BASE`. -/
theorem registerWrite : Obligations.RegisterWrite := by
  refine ⟨fun x reg val s => ?_, fun cfg x reg val s => regWrite_transactions cfg x reg val s⟩
  rw [regWrite_transactions, dport_cvs]
  rfl

/-! ### Register writes of the block's own registers (R64) -/

/-- Every mirrored register is one of the block's. -/
theorem blockRegister_reg (x : Mirror) : blockRegister x.reg := by
  cases x with
  | flags n | level n | attackDecay n | sustainRelease n | wave n => exact .inl ⟨n, _, by decide, rfl⟩
  | fnumLow c | keyBlock c | output c => exact .inr (.inl ⟨c, _, by decide, rfl⟩)
  | percussion => exact .inr (.inr (.inl rfl))
  | fourOp => exact .inr (.inr (.inr (.inl rfl)))

theorem blockRegister_mode : blockRegister cvs.regs.mode := .inr (.inr (.inr (.inr rfl)))

/-- `t` is `s` after whole writes of the block's registers, as far as trace and chip go. -/
def Written (s t : State) : Prop :=
  ∃ ws : List RegVal, busSide t = busSide (s.sends ws) ∧ ∀ w ∈ ws, blockRegister w.1

/-- What register writes make of trace and chip depends on trace and chip alone. -/
theorem busSide_sends_congr {s t : State} (h : busSide t = busSide s) (ws : List RegVal) :
    busSide (t.sends ws) = busSide (s.sends ws) := by
  obtain ⟨ht, hl, hr⟩ : t.trace = s.trace ∧ t.latch = s.latch ∧ t.chipRegs = s.chipRegs := by
    simpa only [busSide, Prod.mk.injEq] using h
  simp only [busSide, State.sends, ht, hl, hr]

theorem Written.of_busSide_eq {s t : State} (h : busSide t = busSide s) : Written s t := ⟨[], by simp [h], by simp⟩

theorem Written.refl (s : State) : Written s s := .of_busSide_eq rfl

theorem Written.trans {s t u : State} (h : Written s t) (h' : Written t u) : Written s u := by
  obtain ⟨ws, hws, hown⟩ := h
  obtain ⟨vs, hvs, hown'⟩ := h'
  refine ⟨ws ++ vs, ?_, fun w hw => (List.mem_append.1 hw).elim (hown w) (hown' w)⟩
  rw [hvs, busSide_sends_congr hws, sends_sends]

theorem Written.same {s t u : State} (h : Written s t) (hu : busSide u = busSide t) : Written s u :=
  h.trans (.of_busSide_eq hu)

theorem written_regWriteAt {r : SetId × Byte} (hr : blockRegister r) (val : Byte) (s : State) :
    Written s (regWriteAt cvs r val s) :=
  ⟨[(r, val)], by rw [regWriteAt_eq], by simpa using hr⟩

/-- The write of one mirrored register. -/
theorem Written.refresh {s t : State} (h : Written s t) (x : Mirror) : Written s (x.refresh t) := by
  refine h.trans ?_
  rw [Mirror.refresh, ← regWriteAt_eq]
  exact written_regWriteAt (blockRegister_reg x) _ t

theorem written_foldl {α : Type} {f : State → α → State} {l : List α} (hf : ∀ x ∈ l, ∀ t, Written t (f t x)) (s : State) :
    Written s (l.foldl f s) := by
  induction l generalizing s with
  | nil => exact .refl s
  | cons x l ih =>
    exact (hf x List.mem_cons_self s).trans (ih (fun y hy => hf y (List.mem_cons_of_mem _ hy)) _)

/-! ### The registers that a command writes -/

/-- The five writes of an operator (R174, R261). -/
theorem written_operator (s : State) (n : OperId) :
    Written s (wE0 cvs n (w80 cvs n (w60 cvs n (w40 cvs n (w20 cvs n s))))) := by
  rw [w20_refresh, w40_refresh, w60_refresh, w80_refresh, wE0_refresh]
  exact .refresh (.refresh (.refresh (.refresh (.refresh (.refl s) _) _) _) _) _

/-- The three writes of a channel (R261). -/
theorem written_channel (s : State) (c : PhysId) : Written s (wC0 cvs c (wA0 cvs c (wB0 cvs c s))) := by
  rw [wB0_refresh, wA0_refresh, wC0_refresh]
  exact .refresh (.refresh (.refresh (.refl s) _) _) _

theorem keeps_written (s : State) : Keeps cvs (Written s) where
  answer _ _ _ hs := hs.same rfl
  patch _ _ _ hs := hs.same rfl
  slot _ _ _ hs := hs.same rfl
  draw _ hs := hs.same rfl
  free _ h _ hs e := (freeHandle_ok_iff.1 e).2 ▸ hs.same (busSide_freed _ h)
  key _ _ _ hs := by
    simp only [writeKey]
    split
    · rw [wB0_refresh]
      exact (hs.same (by rfl)).refresh _
    · rw [wBD_refresh]
      exact (hs.same (by rfl)).refresh _
  freq _ _ _ hs := by
    rw [writeFreq, wA0_refresh, wB0_refresh]
    exact ((hs.same (by rfl)).refresh _).refresh _
  field _ _ _ _ hs := by
    rw [write_refresh]
    exact (hs.same (by rfl)).refresh _
  lfo _ _ _ _ hs := by
    rw [w20_refresh]
    exact (hs.same (by rfl)).refresh _
  program _ _ _ hs := (hs.same (by rfl)).trans (written_operator ..)
  conn _ _ _ _ hs := by
    rw [wC0_refresh]
    exact (hs.same (by rfl)).refresh _

/-- An allocation writes at most the 4-op register (R123, R124). -/
theorem keepsAlloc_written (s : State) : KeepsAlloc cvs (Written s) := by
  intro t _ h u hs e
  cases allocated_of_allocate e with
  | pool2 | pool4 | role => exact hs.same rfl
  | split j => exact .refresh (hs.same (u := splitBlock t j) rfl) .fourOp
  | merge j => exact .refresh (hs.same (u := mergeBlock t j) rfl) .fourOp

theorem keepsPerc_written (s : State) : KeepsPerc cvs (Written s) := by
  refine ⟨fun _ hs _ _ _ _ => ?_, fun _ hs _ _ => ?_⟩
  all_goals
    rw [wBD_refresh]
    exact (hs.same (by rfl)).refresh _

/-- The writes of INIT: the mode register, then mirrored registers (R261). -/
theorem written_initWrites (s : State) : Written s (initWrites cvs s) := by
  have hprologue : Written s (cvs.initPrologue.foldl (fun t w => regWriteAt cvs w.1 w.2 t) s) := by
    refine written_foldl (fun w hw t => written_regWriteAt ?_ _ t) s
    obtain rfl : w = (cvs.regs.mode, 0x01) := List.mem_singleton.1 hw
    exact blockRegister_mode
  rw [initWrites, w104_refresh, wBD_refresh]
  exact (((hprologue.refresh _).refresh _).trans (written_foldl (fun c _ t => written_channel t c) _)).trans
    (written_foldl (fun n _ t => written_operator t n) _)

theorem keepsInit_written (s : State) : KeepsInit cvs (Written s) := fun u hs =>
  (hs.same (u := u.resetBlock cvs) rfl).trans (written_initWrites _)

theorem written_exec {i : Instr} {s t : State} (hi : i ≠ .detect) (h : exec i s = .next t) : Written s t :=
  (keeps_written s).exec (fun _ => keepsAlloc_written s) (fun _ => keepsPerc_written s) (fun _ => keepsInit_written s)
    (fun hd => absurd hd hi) (.refl s) h

/-- A chip register that is not among those written reads as before (R31). -/
theorem chipReg_sends_of_ne {ws : List RegVal} {r : SetId × Byte} (h : ∀ w ∈ ws, w.1 ≠ r) (s : State) :
    chipReg (s.sends ws) r = chipReg s r := by
  have hnone : ws.filter (fun w => w.1 = r) = [] := by simpa using h
  simp [chipReg_sends, hnone]

/-- Settles O12: each primitive of a command but DETECT's is a change of the block followed by writes of its registers. -/
theorem registersWritten : Obligations.RegistersWritten := by
  intro i s t hi h
  obtain ⟨ws, hws, hown⟩ := written_exec hi h
  simp only [busSide, Prod.mk.injEq] at hws
  obtain ⟨htrace, -, hregs⟩ := hws
  refine ⟨ws, htrace, hown, fun r hr => ?_⟩
  have hread : chipReg t r = chipReg (s.sends ws) r := by rw [chipReg, chipReg, hregs]
  rw [hread, chipReg_sends_of_ne hr]

end Sys2Proof.RegisterWrites
end

section
/-! Command words by their fields (R80, R81): a word is put together from its fields, and read back from them. -/

namespace Sys2Proof.Words

open Sys2Proof.Machine Sys2Proof.Laws

/-! ### Bits put side by side, as numbers -/

theorem toNat_append_eq {m n : Nat} (x : BitVec m) (y : BitVec n) : (x ++ y).toNat = x.toNat * 2 ^ n + y.toNat := by
  rw [BitVec.toNat_append, ← Nat.shiftLeft_add_eq_or_of_lt y.isLt, Nat.shiftLeft_eq]

theorem toNat_packB (o a b c : Byte) :
    (packB o a b c).toNat = o.toNat * 2 ^ 24 + a.toNat * 2 ^ 16 + b.toNat * 2 ^ 8 + c.toNat := by
  simp only [packB, toNat_append_eq]
  omega

theorem toNat_packW (o a : Byte) (v : BitVec 16) :
    (packW o a v).toNat = o.toNat * 2 ^ 24 + a.toNat * 2 ^ 16 + v.toNat := by
  simp only [packW, toNat_append_eq]
  omega

theorem toNat_packF (h : BitVec 5) (freq : BitVec 26) :
    (packF h freq).toNat = 2 ^ 31 + h.toNat * 2 ^ 26 + freq.toNat := by
  have hone : (1 : BitVec 1).toNat = 1 := rfl
  simp only [packF, toNat_append_eq, hone]
  omega

section Fields
variable (w : Word)

theorem toNat_opcodeOf : (opcodeOf w).toNat = w.toNat / 2 ^ 24 := by
  have := w.isLt
  rw [opcodeOf, BitVec.extractLsb'_toNat, Nat.shiftRight_eq_div_pow]
  omega

theorem toNat_fieldA : (fieldA w).toNat = w.toNat / 2 ^ 16 % 2 ^ 8 := by
  rw [fieldA, BitVec.extractLsb'_toNat, Nat.shiftRight_eq_div_pow]

theorem toNat_fieldB : (fieldB w).toNat = w.toNat / 2 ^ 8 % 2 ^ 8 := by
  rw [fieldB, BitVec.extractLsb'_toNat, Nat.shiftRight_eq_div_pow]

theorem toNat_fieldC : (fieldC w).toNat = w.toNat % 2 ^ 8 := by
  rw [fieldC, BitVec.extractLsb'_toNat, Nat.shiftRight_zero]

theorem toNat_fieldV : (fieldV w).toNat = w.toNat % 2 ^ 16 := by
  rw [fieldV, BitVec.extractLsb'_toNat, Nat.shiftRight_zero]

theorem toNat_fieldH : (fieldH w).toNat = w.toNat / 2 ^ 26 % 2 ^ 5 := by
  rw [fieldH, BitVec.extractLsb'_toNat, Nat.shiftRight_eq_div_pow]

theorem toNat_fieldFreq : (fieldFreq w).toNat = w.toNat % 2 ^ 26 := by
  rw [fieldFreq, BitVec.extractLsb'_toNat, Nat.shiftRight_zero]

/-- Bit 31, which marks format F, is the top bit of the command code (R80). -/
theorem bit31_eq : w.getLsbD 31 = decide (128 ≤ (opcodeOf w).toNat) := by
  have h := BitVec.msb_eq_decide w
  rw [BitVec.msb_eq_getLsbD_last] at h
  rw [h, toNat_opcodeOf, decide_eq_decide]
  have := w.isLt
  omega

end Fields

/-! ### A word and its fields -/

theorem packB_eq_iff {o a b c : Byte} {w : Word} :
    packB o a b c = w ↔ opcodeOf w = o ∧ fieldA w = a ∧ fieldB w = b ∧ fieldC w = c := by
  have ho := o.isLt; have ha := a.isLt; have hb := b.isLt; have hc := c.isLt
  simp only [← BitVec.toNat_inj, toNat_packB, toNat_opcodeOf, toNat_fieldA, toNat_fieldB, toNat_fieldC]
  omega

theorem packW_eq_iff {o a : Byte} {v : BitVec 16} {w : Word} :
    packW o a v = w ↔ opcodeOf w = o ∧ fieldA w = a ∧ fieldV w = v := by
  have ho := o.isLt; have ha := a.isLt; have hv := v.isLt
  simp only [← BitVec.toNat_inj, toNat_packW, toNat_opcodeOf, toNat_fieldA, toNat_fieldV]
  omega

theorem packF_eq_iff {h : BitVec 5} {freq : BitVec 26} {w : Word} :
    packF h freq = w ↔ w.getLsbD 31 = true ∧ fieldH w = h ∧ fieldFreq w = freq := by
  have hw := w.isLt; have hh := h.isLt; have hf := freq.isLt
  simp only [← BitVec.toNat_inj, bit31_eq, decide_eq_true_eq, toNat_packF, toNat_opcodeOf, toNat_fieldH, toNat_fieldFreq]
  omega

section Formats
variable (o a b c : Byte) (v : BitVec 16)

theorem opcodeOf_packB : opcodeOf (packB o a b c) = o := (packB_eq_iff.1 rfl).1
theorem fieldA_packB : fieldA (packB o a b c) = a := (packB_eq_iff.1 rfl).2.1
theorem fieldB_packB : fieldB (packB o a b c) = b := (packB_eq_iff.1 rfl).2.2.1
theorem fieldC_packB : fieldC (packB o a b c) = c := (packB_eq_iff.1 rfl).2.2.2
theorem opcodeOf_packW : opcodeOf (packW o a v) = o := (packW_eq_iff.1 rfl).1
theorem fieldV_packW : fieldV (packW o a v) = v := (packW_eq_iff.1 rfl).2.2

end Formats

section Masks
variable (x y : Word)

theorem opcodeOf_and : opcodeOf (x &&& y) = opcodeOf x &&& opcodeOf y := BitVec.extractLsb'_and
theorem fieldA_and : fieldA (x &&& y) = fieldA x &&& fieldA y := BitVec.extractLsb'_and
theorem fieldB_and : fieldB (x &&& y) = fieldB x &&& fieldB y := BitVec.extractLsb'_and
theorem fieldC_and : fieldC (x &&& y) = fieldC x &&& fieldC y := BitVec.extractLsb'_and
theorem fieldV_and : fieldV (x &&& y) = fieldV x &&& fieldV y := BitVec.extractLsb'_and

end Masks

/-! ### A command word under the mask of its used fields (R83) -/

section UsedFields
variable {o a b c : Byte} {w : Word}

/-- Format B against a word under a mask that is put together the same way. -/
theorem packB_eq_and_iff (mo ma mb mc : Byte) {m : Word} (hm : packB mo ma mb mc = m) :
    packB o a b c = w &&& m ↔
      opcodeOf w &&& mo = o ∧ fieldA w &&& ma = a ∧ fieldB w &&& mb = b ∧ fieldC w &&& mc = c := by
  obtain ⟨rfl, rfl, rfl, rfl⟩ := packB_eq_iff.1 hm
  simp only [packB_eq_iff, opcodeOf_and, fieldA_and, fieldB_and, fieldC_and]

theorem carries_code : packB o 0 0 0 = w &&& 0xFF000000 ↔ opcodeOf w = o :=
  (packB_eq_and_iff 0xFF 0 0 0 rfl).trans (by simp only [and_ones8, and_zeros, and_true])

theorem carries_A : packB o a 0 0 = w &&& 0xFFFF0000 ↔ opcodeOf w = o ∧ fieldA w = a :=
  (packB_eq_and_iff 0xFF 0xFF 0 0 rfl).trans (by simp only [and_ones8, and_zeros, and_true])

theorem carries_AB : packB o a b 0 = w &&& 0xFFFFFF00 ↔ opcodeOf w = o ∧ fieldA w = a ∧ fieldB w = b :=
  (packB_eq_and_iff 0xFF 0xFF 0xFF 0 rfl).trans (by simp only [and_ones8, and_zeros, and_true])

theorem carries_AC : packB o a 0 c = w &&& 0xFFFF00FF ↔ opcodeOf w = o ∧ fieldA w = a ∧ fieldC w = c :=
  (packB_eq_and_iff 0xFF 0xFF 0 0xFF rfl).trans (by simp only [and_ones8, and_zeros, true_and])

theorem carries_ABC :
    packB o a b c = w &&& 0xFFFFFFFF ↔ opcodeOf w = o ∧ fieldA w = a ∧ fieldB w = b ∧ fieldC w = c :=
  (packB_eq_and_iff 0xFF 0xFF 0xFF 0xFF rfl).trans (by simp only [and_ones8])

theorem carries_V {v : BitVec 16} : packW o 0 v = w &&& 0xFF00FFFF ↔ opcodeOf w = o ∧ fieldV w = v := by
  have hmask : opcodeOf 0xFF00FFFF = 0xFF ∧ fieldA 0xFF00FFFF = 0 ∧ fieldV 0xFF00FFFF = BitVec.allOnes 16 := by decide
  obtain ⟨ho, ha, hv⟩ := hmask
  rw [packW_eq_iff, opcodeOf_and, fieldA_and, fieldV_and, ho, ha, hv, BitVec.and_allOnes]
  simp only [and_ones8, and_zeros, true_and]

theorem carries_AV {v : BitVec 16} :
    packW o a v = w &&& 0xFFFFFFFF ↔ opcodeOf w = o ∧ fieldA w = a ∧ fieldV w = v := by
  rw [show w &&& 0xFFFFFFFF = w from BitVec.and_allOnes, packW_eq_iff]

theorem carries_F {h : BitVec 5} {freq : BitVec 26} :
    packF h freq = w &&& 0xFFFFFFFF ↔ w.getLsbD 31 = true ∧ fieldH w = h ∧ fieldFreq w = freq := by
  rw [show w &&& 0xFFFFFFFF = w from BitVec.and_allOnes, packF_eq_iff]

end UsedFields

end Sys2Proof.Words
end

section
/-! The decoder and the encoder, said once: a word decodes to a command exactly where it carries the command's own word in
the command's used fields (R80, R83, R88, R112). -/

namespace Sys2Proof.Decoding

open Sys2Proof.Machine Sys2Proof.CommandMoves Sys2Proof.Laws Sys2Proof.Words

/-! ### The controller rows (R88) -/

/-- The operator-field controllers, whose numbers come in groups of four (R88). -/
def opControllers : List Controller :=
  [.opAttack, .opDecay, .opSustain, .opRelease, .opWaveform, .opLevel, .opKsl, .opMult, .opTremolo, .opVibrato,
    .opSusflag, .opEnvscale, .opVelsens]

/-- The controller number of a function, of an operator-field group the one of operator index `j` (R88). -/
def controllerByte (n : Controller) (j : BitVec 2) : Byte :=
  if n ∈ opControllers then controllerNumber cvs n + j.setWidth 8 else controllerNumber cvs n

/-- Every other function stands at one number (R88). -/
theorem mem_single_of_notMem {n : Controller} (h : n ∉ opControllers) :
    n ∈ ([.program, .volume, .algorithm, .feedback, .output, .lfoDelay, .sustainPedal, .allSoundOff, .allNotesOff]
      : List Controller) := by
  revert h
  cases n <;> decide

theorem controllerOf_controllerByte (n : Controller) (j : BitVec 2) : controllerOf cvs (controllerByte n j) = some n := by
  by_cases hn : n ∈ opControllers
  · rw [controllerByte, if_pos hn]
    exact (controllerOf_group n hn j).1
  · rw [controllerByte, if_neg hn]
    exact controllerOf_single n (mem_single_of_notMem hn)

/-- A number of the map is its function's, at the operator index in its two low bits (R88). -/
theorem controllerByte_of_controllerOf {b : Byte} {n : Controller} (h : controllerOf cvs b = some n) :
    controllerByte n (b.extractLsb' 0 2) = b := by
  have hall : ∀ b : Byte, ∀ n ∈ controllerOf cvs b, controllerByte n (b.extractLsb' 0 2) = b := by decide
  exact hall b n h

/-- Only an operator-field controller has an operator index (R88). -/
theorem controllerInstr_index (a c : Byte) (n : Controller) (j : BitVec 2) :
    controllerInstr a ((controllerByte n j).extractLsb' 0 2) c n = controllerInstr a j c n := by
  by_cases hn : n ∈ opControllers
  · rw [controllerByte, if_pos hn, (controllerOf_group n hn j).2]
  · have hsingle := mem_single_of_notMem hn
    simp only [List.mem_cons, List.not_mem_nil, or_false] at hsingle
    obtain rfl | rfl | rfl | rfl | rfl | rfl | rfl | rfl | rfl := hsingle <;> rfl

/-- The controllers of the map are the commands with a channel and a value for operands. -/
theorem exists_controllerInstr {i : Instr} (hi : (ctrlOperands i).isSome = true) :
    ∃ a j c n, i = controllerInstr a j c n := by
  cases i with
  | ctrlProgram a c => exact ⟨a, 0, c, .program, rfl⟩
  | ctrlVolume a c => exact ⟨a, 0, c, .volume, rfl⟩
  | ctrlAlgorithm a c => exact ⟨a, 0, c, .algorithm, rfl⟩
  | ctrlFeedback a c => exact ⟨a, 0, c, .feedback, rfl⟩
  | ctrlOutput a c => exact ⟨a, 0, c, .output, rfl⟩
  | ctrlLfoDelay a c => exact ⟨a, 0, c, .lfoDelay, rfl⟩
  | ctrlOpAttack a j c => exact ⟨a, j, c, .opAttack, rfl⟩
  | ctrlOpDecay a j c => exact ⟨a, j, c, .opDecay, rfl⟩
  | ctrlOpSustain a j c => exact ⟨a, j, c, .opSustain, rfl⟩
  | ctrlOpRelease a j c => exact ⟨a, j, c, .opRelease, rfl⟩
  | ctrlOpWaveform a j c => exact ⟨a, j, c, .opWaveform, rfl⟩
  | ctrlOpLevel a j c => exact ⟨a, j, c, .opLevel, rfl⟩
  | ctrlOpKsl a j c => exact ⟨a, j, c, .opKsl, rfl⟩
  | ctrlOpMult a j c => exact ⟨a, j, c, .opMult, rfl⟩
  | ctrlOpTremolo a j c => exact ⟨a, j, c, .opTremolo, rfl⟩
  | ctrlOpVibrato a j c => exact ⟨a, j, c, .opVibrato, rfl⟩
  | ctrlOpSusflag a j c => exact ⟨a, j, c, .opSusflag, rfl⟩
  | ctrlOpEnvscale a j c => exact ⟨a, j, c, .opEnvscale, rfl⟩
  | ctrlOpVelsens a j c => exact ⟨a, j, c, .opVelsens, rfl⟩
  | ctrlSustainPedal a c => exact ⟨a, 0, c, .sustainPedal, rfl⟩
  | ctrlAllSoundOff a c => exact ⟨a, 0, c, .allSoundOff, rfl⟩
  | ctrlAllNotesOff a c => exact ⟨a, 0, c, .allNotesOff, rfl⟩
  | _ => cases hi

theorem encode_controllerInstr (a : Byte) (j : BitVec 2) (c : Byte) (n : Controller) :
    encode cvs (controllerInstr a j c n) = packB 0x03 a (controllerByte n j) c := by
  cases n <;> rfl

theorem usedBits_controllerInstr (a : Byte) (j : BitVec 2) (c : Byte) (n : Controller) :
    usedBits (controllerInstr a j c n) = 0xFFFFFFFF := by
  cases n <;> rfl

theorem decodeCtrl_of_none {b : Byte} (h : controllerOf cvs b = none) (a c : Byte) : decodeCtrl cvs a b c = .ctrl a b c := by
  simp only [decodeCtrl, h]

theorem decodeCtrl_of_some {b : Byte} {n : Controller} (h : controllerOf cvs b = some n) (a c : Byte) :
    decodeCtrl cvs a b c = controllerInstr a (b.extractLsb' 0 2) c n := by
  simp only [decodeCtrl, h]
  cases n <;> rfl

/-! ### What a word decodes to -/

theorem decode_of_bit31 {w : Word} (h : w.getLsbD 31 = true) : decode cvs w = .ok (.setFreq (fieldH w) (fieldFreq w)) := by
  simp only [decode, h, if_true]

/-- The command code of CTRL is decoded by the controller map (R88). -/
theorem decode_of_ctrl {w : Word} (h : opcodeOf w = 0x03) :
    decode cvs w = .ok (decodeCtrl cvs (fieldA w) (fieldB w) (fieldC w)) := by
  simp only [decode, bit31_eq, h]
  rfl

/-- A word carries a command: it agrees with the command's own word in the used bits (R83). -/
def Carries (w : Word) (i : Instr) : Prop := encode cvs i = w &&& usedBits i

theorem carries_controllerInstr {w : Word} {n : Controller} (ho : opcodeOf w = 0x03)
    (hn : controllerOf cvs (fieldB w) = some n) :
    Carries w (controllerInstr (fieldA w) ((fieldB w).extractLsb' 0 2) (fieldC w) n) := by
  rw [Carries, encode_controllerInstr, usedBits_controllerInstr, controllerByte_of_controllerOf hn]
  exact carries_ABC.2 ⟨ho, rfl, rfl, rfl⟩

/-- What the controller map makes of a CTRL word is well-formed and carried by the word. -/
theorem decodeCtrl_carries {w : Word} (ho : opcodeOf w = 0x03) :
    (decodeCtrl cvs (fieldA w) (fieldB w) (fieldC w)).wf cvs = true
      ∧ Carries w (decodeCtrl cvs (fieldA w) (fieldB w) (fieldC w)) := by
  cases hn : controllerOf cvs (fieldB w) with
  | none =>
    rw [decodeCtrl_of_none hn]
    exact ⟨by simp [Instr.wf, assignedController, hn], carries_ABC.2 ⟨ho, rfl, rfl, rfl⟩⟩
  | some n =>
    rw [decodeCtrl_of_some hn]
    exact ⟨controllerInstr_wf .., carries_controllerInstr ho hn⟩

theorem code_eq_ofNat {w : Word} {n : Nat} (h : (opcodeOf w).toNat = n) : opcodeOf w = BitVec.ofNat 8 n := by
  rw [← h, BitVec.ofNat_toNat, BitVec.setWidth_eq]

/-- A decoded command is well-formed and carried by the word. -/
theorem carries_of_decode {w : Word} {i : Instr} (h : decode cvs w = .ok i) : i.wf cvs = true ∧ Carries w i := by
  unfold decode at h
  split at h
  · next hbit =>
    cases h
    exact ⟨rfl, carries_F.2 ⟨hbit, rfl, rfl⟩⟩
  · dsimp only at h
    split at h
    case h_4 hcode =>
      cases h
      exact decodeCtrl_carries (BitVec.eq_of_toNat_eq hcode)
    case h_32 => cases h
    all_goals
      rename_i hcode
      have ho := code_eq_ofNat hcode
      cases h
      refine ⟨rfl, ?_⟩
      simp only [Carries, encode, usedBits, carries_code, carries_A, carries_AB, carries_AC, carries_ABC, carries_V,
        carries_AV, ho]
      trivial

theorem decode_of_carries_controller {w : Word} {i : Instr} (hi : (ctrlOperands i).isSome = true) (h : Carries w i) :
    decode cvs w = .ok i := by
  obtain ⟨a, j, c, n, rfl⟩ := exists_controllerInstr hi
  rw [Carries, encode_controllerInstr, usedBits_controllerInstr, carries_ABC] at h
  obtain ⟨ho, rfl, hb, rfl⟩ := h
  rw [decode_of_ctrl ho, hb, decodeCtrl_of_some (controllerOf_controllerByte n j), controllerInstr_index]

/-- A word that carries a well-formed command decodes to it. -/
theorem decode_of_carries {w : Word} {i : Instr} (hw : i.wf cvs = true) (h : Carries w i) : decode cvs w = .ok i := by
  cases i
  case ctrl a b c =>
    obtain ⟨ho, rfl, rfl, rfl⟩ := carries_ABC.1 h
    have hnone : controllerOf cvs (fieldB w) = none := by simpa [Instr.wf, assignedController] using hw
    rw [decode_of_ctrl ho, decodeCtrl_of_none hnone]
  case setFreq g freq =>
    obtain ⟨hbit, rfl, rfl⟩ := carries_F.1 h
    exact decode_of_bit31 hbit
  case ctrlProgram | ctrlVolume | ctrlAlgorithm | ctrlFeedback | ctrlOutput | ctrlLfoDelay | ctrlOpAttack | ctrlOpDecay
    | ctrlOpSustain | ctrlOpRelease | ctrlOpWaveform | ctrlOpLevel | ctrlOpKsl | ctrlOpMult | ctrlOpTremolo
    | ctrlOpVibrato | ctrlOpSusflag | ctrlOpEnvscale | ctrlOpVelsens | ctrlSustainPedal | ctrlAllSoundOff
    | ctrlAllNotesOff => exact decode_of_carries_controller rfl h
  all_goals
    simp only [Carries, encode, usedBits, carries_code, carries_A, carries_AB, carries_AC, carries_ABC, carries_V,
      carries_AV] at h
    simp only [decode, bit31_eq, h]
    rfl

theorem decode_ok_iff {w : Word} {i : Instr} : decode cvs w = .ok i ↔ i.wf cvs = true ∧ Carries w i :=
  ⟨carries_of_decode, fun h => decode_of_carries h.1 h.2⟩

/-- A command's own word has no bit set beyond the command's fields (R112). -/
theorem carries_encode (i : Instr) : Carries (encode cvs i) i := by
  cases i
  case ctrlProgram | ctrlVolume | ctrlAlgorithm | ctrlFeedback | ctrlOutput | ctrlLfoDelay | ctrlOpAttack | ctrlOpDecay
    | ctrlOpSustain | ctrlOpRelease | ctrlOpWaveform | ctrlOpLevel | ctrlOpKsl | ctrlOpMult | ctrlOpTremolo
    | ctrlOpVibrato | ctrlOpSusflag | ctrlOpEnvscale | ctrlOpVelsens | ctrlSustainPedal | ctrlAllSoundOff
    | ctrlAllNotesOff | ctrl | noteOn | pitchBend | setOpAttack | setOpDecay | setOpSustain | setOpRelease
    | setOpWaveform | setOpAttenuation | setOpKsl | setOpMult | setOpTremolo | setOpVibrato | setOpSusflag
    | setOpEnvscale | setFreq => exact BitVec.and_allOnes.symm
  all_goals
    simp only [Carries, encode, usedBits, carries_code, carries_A, carries_AB, carries_AC, carries_V, opcodeOf_packB,
      fieldA_packB, fieldB_packB, fieldC_packB, opcodeOf_packW, fieldV_packW, and_self]

/-- Settles O1: a command's own word carries it, and a word decodes to the well-formed command that it carries. -/
theorem decodeEncode : Obligations.DecodeEncode := fun i hw => decode_of_carries hw (carries_encode i)

/-- Settles O3: what a word decodes to is what it carries, and that is a matter of the used bits. -/
theorem unusedFieldsIgnored : Obligations.UnusedFieldsIgnored := by
  intro w w' i h
  obtain ⟨hw, hcarries⟩ := carries_of_decode h
  exact ⟨hcarries, fun hused => decode_of_carries hw (hcarries.trans hused.symm)⟩

/-! ### The rows of the opcode table (R88) -/

theorem row_mem_opcodeRows (i : Instr) : i.row ∈ opcodeRows := by
  cases i <;> simp only [Instr.row] <;> decide

/-- One command of each row, in the table's order. -/
def oneOfEach : List Instr :=
  [.nop, .noteOn 0 0 0, .noteOff 0 0, .ctrl 0 0 0, .ctrlProgram 0 0, .ctrlVolume 0 0, .ctrlAlgorithm 0 0,
   .ctrlFeedback 0 0, .ctrlOutput 0 0, .ctrlLfoDelay 0 0, .ctrlOpAttack 0 0 0, .ctrlOpDecay 0 0 0, .ctrlOpSustain 0 0 0,
   .ctrlOpRelease 0 0 0, .ctrlOpWaveform 0 0 0, .ctrlOpLevel 0 0 0, .ctrlOpKsl 0 0 0, .ctrlOpMult 0 0 0,
   .ctrlOpTremolo 0 0 0, .ctrlOpVibrato 0 0 0, .ctrlOpSusflag 0 0 0, .ctrlOpEnvscale 0 0 0, .ctrlOpVelsens 0 0 0,
   .ctrlSustainPedal 0 0, .ctrlAllSoundOff 0 0, .ctrlAllNotesOff 0 0, .pitchBend 0 0, .service 0, .init, .detect,
   .alloc 0, .free 0, .percEnable, .percDisable, .keyOn 0, .keyOff 0, .getOpType 0 0, .getOpCount 0,
   .setOpAttack 0 0 0, .setOpDecay 0 0 0, .setOpSustain 0 0 0, .setOpRelease 0 0 0, .setOpWaveform 0 0 0,
   .setOpAttenuation 0 0 0, .setOpKsl 0 0 0, .setOpMult 0 0 0, .setOpTremolo 0 0 0, .setOpVibrato 0 0 0,
   .setOpSusflag 0 0 0, .setOpEnvscale 0 0 0, .setOutput 0 0, .setFeedback 0 0, .setAlgorithm 0 0, .setFreq 0 0]

/-- Every row of the table is a command's. -/
theorem exists_row {r : OpcodeRow} (hr : r ∈ opcodeRows) : ∃ i : Instr, i.row = r := by
  have hrows : opcodeRows = oneOfEach.map Instr.row := rfl
  obtain ⟨i, -, hi⟩ := List.mem_map.1 (hrows ▸ hr)
  exact ⟨i, hi⟩

/-- The bits that select a row are among the command's used bits. -/
theorem mask_and_usedBits (i : Instr) : usedBits i &&& i.row.mask = i.row.mask := by
  cases i <;> simp only [usedBits, Instr.row] <;> decide

/-- A command's word has the fixed bits of its row (R88, R112). -/
theorem encode_and_mask (i : Instr) : encode cvs i &&& i.row.mask = i.row.value := by
  cases i
  case ctrlProgram | ctrlVolume | ctrlAlgorithm | ctrlFeedback | ctrlOutput | ctrlLfoDelay | ctrlSustainPedal
    | ctrlAllSoundOff | ctrlAllNotesOff => exact packCtrl_mask ..
  case ctrlOpAttack | ctrlOpDecay | ctrlOpSustain | ctrlOpRelease | ctrlOpWaveform | ctrlOpLevel | ctrlOpKsl | ctrlOpMult
    | ctrlOpTremolo | ctrlOpVibrato | ctrlOpSusflag | ctrlOpEnvscale | ctrlOpVelsens =>
    exact packOpCtrl_mask _ _ _ _ (by decide)
  case pitchBend | service => exact packW_mask ..
  case setFreq => exact packF_mask ..
  all_goals exact packB_mask ..

theorem selects_of_carries {w : Word} {i : Instr} (h : Carries w i) : i.row.selects w = true := by
  have hfixed : w &&& i.row.mask = i.row.value := by
    rw [← mask_and_usedBits, ← BitVec.and_assoc, ← h, encode_and_mask]
  simp only [OpcodeRow.selects, hfixed, beq_self_eq_true]

/-- A row that fixes the whole command code fixes it to its own (R88). -/
theorem opcodeOf_of_selects {w mask value : Word} {name : String} (hmask : opcodeOf mask = 0xFF)
    (h : (OpcodeRow.mk name mask value).selects w = true) : opcodeOf w = opcodeOf value := by
  rw [← show w &&& mask = value from eq_of_beq h, opcodeOf_and, hmask, and_ones8]

/-- The row of a controller, which does not depend on the operands. -/
def controllerRow (n : Controller) : OpcodeRow := (controllerInstr 0 0 0 n).row

theorem row_controllerInstr (a : Byte) (j : BitVec 2) (c : Byte) (n : Controller) :
    (controllerInstr a j c n).row = controllerRow n := by
  cases n <;> rfl

/-- A controller's row fixes the code of CTRL and the controller numbers of its function, with a longer mask than the
general row's (R88). -/
theorem controllerRow_fixes (n : Controller) :
    (opcodeOf (controllerRow n).mask = 0xFF ∧ opcodeOf (controllerRow n).value = 0x03)
      ∧ (∀ b : Byte, b &&& fieldB (controllerRow n).mask = fieldB (controllerRow n).value → controllerOf cvs b = some n)
      ∧ 0xFF000000 &&& (controllerRow n).mask = 0xFF000000 ∧ 0xFF000000 ≠ (controllerRow n).mask := by
  cases n <;> decide

/-- Row `r` is that of command `i` or matches fewer bits (R88). -/
def RowLe (r : OpcodeRow) (i : Instr) : Prop := r = i.row ∨ (r.mask &&& i.row.mask = r.mask ∧ r.mask ≠ i.row.mask)

theorem decode_of_selects_controller {w : Word} {i : Instr} (hi : (ctrlOperands i).isSome = true)
    (h : i.row.selects w = true) : ∃ j, decode cvs w = .ok j ∧ RowLe i.row j := by
  obtain ⟨a, j, c, n, rfl⟩ := exists_controllerInstr hi
  rw [row_controllerInstr] at h ⊢
  obtain ⟨⟨hmask, hvalue⟩, hnumber, -⟩ := controllerRow_fixes n
  have ho : opcodeOf w = 0x03 := (opcodeOf_of_selects hmask h).trans hvalue
  have hn : controllerOf cvs (fieldB w) = some n := hnumber _ (by rw [← fieldB_and, eq_of_beq h])
  exact ⟨_, decode_of_ctrl ho, .inl (by rw [decodeCtrl_of_some hn, row_controllerInstr])⟩

/-- A word that some row selects decodes to a command of that row, or of one with a longer mask (R88). -/
theorem decode_of_selects {w : Word} {i : Instr} (h : i.row.selects w = true) :
    ∃ j, decode cvs w = .ok j ∧ RowLe i.row j := by
  cases i
  case setFreq =>
    have hfixed : w &&& 0x80000000 = 0x80000000 := eq_of_beq h
    have hbit : (w &&& 0x80000000).getLsbD 31 = true := by rw [hfixed]; decide
    rw [BitVec.getLsbD_and, Bool.and_eq_true] at hbit
    exact ⟨_, decode_of_bit31 hbit.1, .inl rfl⟩
  case ctrl =>
    have ho : opcodeOf w = 0x03 := (opcodeOf_of_selects (by decide) h).trans (by decide)
    refine ⟨_, decode_of_ctrl ho, ?_⟩
    cases hn : controllerOf cvs (fieldB w) with
    | none => exact .inl (by rw [decodeCtrl_of_none hn]; rfl)
    | some n => exact .inr (by rw [decodeCtrl_of_some hn, row_controllerInstr]; exact (controllerRow_fixes n).2.2)
  case ctrlProgram | ctrlVolume | ctrlAlgorithm | ctrlFeedback | ctrlOutput | ctrlLfoDelay | ctrlOpAttack | ctrlOpDecay
    | ctrlOpSustain | ctrlOpRelease | ctrlOpWaveform | ctrlOpLevel | ctrlOpKsl | ctrlOpMult | ctrlOpTremolo
    | ctrlOpVibrato | ctrlOpSusflag | ctrlOpEnvscale | ctrlOpVelsens | ctrlSustainPedal | ctrlAllSoundOff
    | ctrlAllNotesOff => exact decode_of_selects_controller rfl h
  all_goals
    have ho := opcodeOf_of_selects (by decide) h
    refine ⟨_, by rw [decode, bit31_eq, ho]; rfl, ?_⟩
    exact .inl rfl

theorem decode_error_iff {w : Word} : (∃ e, decode cvs w = .error e) ↔ ∀ i, decode cvs w ≠ .ok i := by
  cases decode cvs w <;> simp

/-- Settles O2: a decoded command's row selects the word, and a row that selects it is no longer than the decoded one's. -/
theorem decodeLongestRow : Obligations.DecodeLongestRow := by
  refine fun w => ⟨fun i hi => ?_, ?_⟩
  · obtain ⟨hw, hcarries⟩ := carries_of_decode hi
    refine ⟨hw, row_mem_opcodeRows i, selects_of_carries hcarries, fun r hr hsel => ?_⟩
    obtain ⟨j, rfl⟩ := exists_row hr
    obtain ⟨k, hk, hle⟩ := decode_of_selects hsel
    obtain rfl : i = k := Except.ok.inj (hi.symm.trans hk)
    exact hle
  · rw [decode_error_iff]
    constructor
    · intro hnone r hr
      obtain ⟨j, rfl⟩ := exists_row hr
      refine Bool.eq_false_iff.2 fun hsel => ?_
      obtain ⟨k, hk, -⟩ := decode_of_selects hsel
      exact hnone k hk
    · intro hrows i hi
      have hsel := selects_of_carries (carries_of_decode hi).2
      exact absurd hsel (by simp [hrows _ (row_mem_opcodeRows i)])

/-! ### The reserved codes (R85) -/

/-- The command codes to which no command belongs (R85). -/
def reservedCode (n : Nat) : Prop :=
  (0x08 ≤ n ∧ n ≤ 0x0F) ∨ (0x18 ≤ n ∧ n ≤ 0x1F) ∨ (0x2C ≤ n ∧ n ≤ 0x2F) ∨ (0x33 ≤ n ∧ n ≤ 0x7F)

theorem decode_error_iff_reservedCode (w : Word) :
    (∃ e, decode cvs w = .error e) ↔ reservedCode (opcodeOf w).toNat := by
  unfold decode
  split
  · next hbit =>
    rw [bit31_eq, decide_eq_true_eq] at hbit
    simp only [reservedCode, reduceCtorEq, exists_false, false_iff]
    omega
  · next hbit =>
    rw [bit31_eq, decide_eq_true_eq] at hbit
    dsimp only
    split
    case h_32 =>
      simp only [reservedCode, Except.error.injEq, exists_eq', true_iff]
      simp only [imp_false] at *
      omega
    all_goals
      rename_i hcode
      simp only [reservedCode, reduceCtorEq, exists_false, false_iff, hcode]
      omega

/-- A decoded general CTRL carries an unassigned number, and is refused with OutOfRange (R85, R200, R224). -/
theorem exec_of_decode_ctrl {w : Word} {a b c : Byte} (h : decode cvs w = .ok (.ctrl a b c)) (s : State) :
    exec (.ctrl a b c) s = .next { s with result := 0x0200, busy := false } := by
  have hnone : controllerOf cvs b = none := by
    simpa [Instr.wf, assignedController] using (carries_of_decode h).1
  simp only [exec, execCtrl, hnone]
  rfl

/-- Settles O4: the decoder rejects by the command code alone, and a rejected word is refused. -/
theorem reservedCodes : Obligations.ReservedCodes := by
  refine ⟨fun w => ?_, fun s e hbusy hreset he => ?_, fun w a b c s h => exec_of_decode_ctrl h s⟩
  · rw [decode_error_iff_reservedCode, toNat_opcodeOf, reservedCode]
  · rw [step, Scope.stepBy_of_busy hbusy hreset, runCommand, he]
    rfl

/-- Settles O5: the eight words, decoded. -/
theorem decodedWords : Obligations.DecodedWords := by
  unfold Obligations.DecodedWords
  decide

end Sys2Proof.Decoding
end

section
/-! The operands of the commands: register addresses and bytes, the operators of a handle, bends and frequencies. -/

namespace Sys2Proof.Operands

open Sys2Proof.Machine Sys2Proof.Words Sys2Proof.AllocatorInvariant

/-! ### Register addresses and bytes (R96 to R106) -/

theorem chReg_index (c : PhysId) {b : Byte} (hb : b = 0xA0 ∨ b = 0xB0 ∨ b = 0xC0) :
    (chReg c b).1.val = (if c.val < 9 then 0 else 1) ∧ (chReg c b).2.toNat = b.toNat + c.val % 9 := by
  revert c
  obtain rfl | rfl | rfl := hb <;> decide

theorem opReg_index (n : OperId) {b : Byte} (hb : b = 0x20 ∨ b = 0x40 ∨ b = 0x60 ∨ b = 0x80 ∨ b = 0xE0) :
    (opReg n b).1.val = (if n.val < 18 then 0 else 1)
      ∧ (opReg n b).2.toNat = b.toNat
        + ([0, 1, 2, 3, 4, 5, 8, 9, 10, 11, 12, 13, 16, 17, 18, 19, 20, 21] : List Nat).getD (n.val % 18) 0 := by
  revert n
  obtain rfl | rfl | rfl | rfl | rfl := hb <;> decide

theorem toNat_zeros (w : Nat) : (0 : BitVec w).toNat = 0 := BitVec.toNat_zero

theorem toNat_flagsByte (o : Oper) : (o.flagsByte cvs).toNat
    = 128 * o.trem.toNat + 64 * o.vib.toNat + 32 * o.sus.toNat + 16 * o.ksr.toNat + o.mult.toNat := by
  rw [flagsByte_eq]
  simp only [toNat_append_eq]
  omega

theorem toNat_levelByte (o : Oper) : (o.levelByte cvs).toNat = 64 * o.ksl.toNat + o.tl.toNat := by
  rw [levelByte_eq, toNat_append_eq]
  omega

theorem toNat_attackDecayByte (o : Oper) : (o.attackDecayByte cvs).toNat = 16 * o.ar.toNat + o.dr.toNat := by
  rw [attackDecayByte_eq, toNat_append_eq]
  omega

theorem toNat_sustainReleaseByte (o : Oper) : (o.sustainReleaseByte cvs).toNat = 16 * o.sl.toNat + o.rr.toNat := by
  rw [sustainReleaseByte_eq, toNat_append_eq]
  omega

theorem toNat_waveByte (o : Oper) : (o.waveByte cvs).toNat = o.ws.toNat := by
  rw [waveByte_eq, toNat_append_eq, toNat_zeros]
  omega

theorem toNat_fnumLowByte (x : Chan) : (x.fnumLowByte cvs).toNat = x.fnum.toNat % 256 := by
  rw [fnumLowByte_eq, BitVec.extractLsb'_toNat, Nat.shiftRight_zero]

theorem toNat_keyBlockByte (x : Chan) :
    (x.keyBlockByte cvs).toNat = 32 * x.keyOn.toNat + 4 * x.block.toNat + x.fnum.toNat / 256 := by
  have hfnum := x.fnum.isLt
  rw [keyBlockByte_eq]
  simp only [toNat_append_eq, BitVec.extractLsb'_toNat, Nat.shiftRight_eq_div_pow, toNat_zeros]
  omega

theorem toNat_outputByte (x : Chan) : (x.outputByte cvs).toNat = 16 * x.out.toNat + 2 * x.fb.toNat + x.cnt.toNat := by
  rw [outputByte_eq]
  simp only [toNat_append_eq]
  omega

theorem toNat_percussionByte (e : Bool) (key : Vector Bool 5) : (percussionByte cvs e key).toNat
    = 32 * e.toNat + 16 * key[0].toNat + 8 * key[1].toNat + 4 * key[2].toNat + 2 * key[3].toNat + key[4].toNat := by
  rw [percussionByte_eq]
  simp only [toNat_append_eq, BitVec.toNat_ofBool, toNat_zeros]
  omega

/-- The mask register has bit `j` for pair `j` (R104). -/
theorem toNat_fourOpByte (mask : BitVec 6) : (fourOpByte cvs mask).toNat
    = ((List.finRange 6).map (fun j => 2 ^ j.val * (mask.getLsbD j.val).toNat)).sum := by
  have hbits : ∀ m : BitVec 6, m.toNat = ((List.finRange 6).map (fun j => 2 ^ j.val * (m.getLsbD j.val).toNat)).sum := by
    decide
  rw [fourOpByte_eq, toNat_append_eq, toNat_zeros, ← hbits]
  omega

/-- Settles O13: each register write is one `sends` of the register's byte, and the byte is its fields side by side. -/
theorem registerEncoding : Obligations.RegisterEncoding := by
  refine ⟨fun c b hb => chReg_index c hb, fun n b hb => opReg_index n hb, fun s => ⟨?_, ?_, ?_, ?_⟩⟩
  · rintro n _ rfl
    exact ⟨_, _, _, _, _, w20_eq s n, toNat_flagsByte _, w40_eq s n, toNat_levelByte _, w60_eq s n,
      toNat_attackDecayByte _, w80_eq s n, toNat_sustainReleaseByte _, wE0_eq s n, toNat_waveByte _⟩
  · rintro c _ rfl
    exact ⟨_, _, _, wA0_eq s c, toNat_fnumLowByte _, wB0_eq s c, toNat_keyBlockByte _, wC0_eq s c, toNat_outputByte _⟩
  · exact ⟨_, wBD_eq s, toNat_percussionByte ..⟩
  · exact ⟨_, w104_eq s, toNat_fourOpByte _⟩

/-! ### The operators of a handle (R92) -/

/-- The channel whose pair of operators `n` is in (R92). -/
def homeOf (n : OperId) : PhysId := ⟨9 * (n.val / 18) + 3 * (n.val % 18 / 6) + n.val % 3, by omega⟩

theorem mem_physOps {n : OperId} {c : PhysId} : n ∈ physOps cvs c ↔ c = homeOf n := by
  revert n c
  decide

/-- A channel owns its own two operators unless it is Null, and as FourOp those of its secondary too (R92). -/
theorem mem_opsOf_phys {s : State} {n : OperId} {c : PhysId} :
    n ∈ opsOf cvs s (physHandle c) ↔
      (c = homeOf n ∧ s.ctype[c] ≠ .null) ∨ (secondary c = homeOf n ∧ s.ctype[c] = .fourOp) := by
  rw [opsOf_phys]
  cases s.ctype[c] <;> simp [mem_physOps]

theorem secondary_pair (j : PairId) : secondary cvs.pairs[j].1 = cvs.pairs[j].2 := by
  revert j
  decide

theorem exists_pair_of_isPrimary {c : PhysId} : isPrimary c = true → ∃ j : PairId, cvs.pairs[j].1 = c := by
  revert c
  decide

/-- A FourOp channel has a Null secondary (R21, R24). -/
theorem null_of_fourOp {s : State} (hs : AllocInv s) {c : PhysId} (hc : s.ctype[c] = .fourOp) :
    ∃ d : PhysId, secondary c = d ∧ s.ctype[d] = .null := by
  have hfits := fits_of_allocInv hs c
  rw [hc] at hfits
  obtain ⟨j, rfl⟩ := exists_pair_of_isPrimary hfits.1
  exact ⟨_, secondary_pair j, (null_iff hs j).2 hc⟩

/-- A Null channel is the secondary of a FourOp one (R21, R24). -/
theorem fourOp_of_null {s : State} (hs : AllocInv s) {c : PhysId} (hc : s.ctype[c] = .null) :
    ∃ d : PhysId, secondary d = c ∧ s.ctype[d] = .fourOp := by
  have hfits := fits_of_allocInv hs c
  rw [hc] at hfits
  obtain ⟨j, rfl⟩ := exists_pair_of_isSecondary hfits.1
  exact ⟨_, secondary_pair j, (null_iff hs j).1 hc⟩

/-- Every operator is its home channel's, or that of the FourOp channel that absorbed its home channel (R92). -/
theorem exists_owner {s : State} (hs : AllocInv s) (n : OperId) :
    ∃ c : PhysId, n ∈ opsOf cvs s (physHandle c) ∧ ∀ d : PhysId, n ∈ opsOf cvs s (physHandle d) → d = c := by
  simp only [mem_opsOf_phys]
  by_cases hnull : s.ctype[homeOf n] = .null
  · obtain ⟨c, hsec, hc⟩ := fourOp_of_null hs hnull
    refine ⟨c, .inr ⟨hsec, hc⟩, ?_⟩
    rintro d (⟨rfl, hd⟩ | ⟨hd, -⟩)
    · exact absurd hnull hd
    · exact add_right_cancel (hd.trans hsec.symm)
  · refine ⟨homeOf n, .inl ⟨rfl, hnull⟩, ?_⟩
    rintro d (⟨rfl, -⟩ | ⟨hsec, hd⟩)
    · rfl
    · obtain ⟨e, he, henull⟩ := null_of_fourOp hs hd
      obtain rfl : e = homeOf n := he.symm.trans hsec
      exact absurd henull hnull

/-- Settles O14: the tables, and under the allocator invariant the owner of each operator. -/
theorem operatorMap : Obligations.OperatorMap := by
  refine ⟨by decide, fun s c => ?_, fun s => ?_, fun s hs n => exists_owner hs n⟩
  · rw [opsOf_phys]
    rfl
  · simp only [opsOf_role]
    decide

end Sys2Proof.Operands
end
section
/-! Bends and note frequencies (R107 to R109). -/

namespace Sys2Proof.Frequencies

open Sys2Proof.Machine

/-! ### The bend law (R107) -/

theorem bendLaw_mem {v : Nat} (hv : v ≤ 16383) : -200 ≤ bendLaw v ∧ bendLaw v ≤ 200 := by
  unfold bendLaw
  split <;> omega

theorem bendLaw_mono {v w : Nat} (h : v ≤ w) : bendLaw v ≤ bendLaw w := by
  unfold bendLaw
  split <;> split <;> omega

/-! ### The table of note frequencies (R108) -/

/-- The table rises from entry to entry. -/
theorem noteChz_lt_succ {k : Int} (hk : -2 ≤ k) (hk' : k < 129) : noteChz cvs k < noteChz cvs (k + 1) := by
  have hrises : ∀ j : Fin 131, noteChz cvs ((j.val : Int) - 2) < noteChz cvs ((j.val : Int) - 2 + 1) := by decide
  have h := hrises ⟨(k + 2).toNat, by omega⟩
  rwa [show (((k + 2).toNat : Nat) : Int) - 2 = k by omega] at h

theorem noteChz_lt {k l : Int} (hk : -2 ≤ k) (h : k < l) (hl : l ≤ 129) : noteChz cvs k < noteChz cvs l := by
  induction l, (show k + 1 ≤ l from h) using Int.leInduction with
  | base => exact noteChz_lt_succ hk (by omega)
  | succ l hkl ih => exact (ih (by omega) (by omega)).trans (noteChz_lt_succ (by omega) (by omega))

theorem noteChz_le {k l : Int} (hk : -2 ≤ k) (h : k ≤ l) (hl : l ≤ 129) : noteChz cvs k ≤ noteChz cvs l := by
  obtain rfl | h := Int.le_iff_eq_or_lt.1 h
  · rfl
  · exact (noteChz_lt hk h hl).le

/-- Each entry is the nearest integer to `44000 * 2^((k-69)/12)`, raised to the twelfth power (R108). -/
theorem noteChz_law (j : Fin 132) :
    (2 * noteChz cvs ((j.val : Int) - 2) - 1) ^ 12 * 2 ^ 71 ≤ 88000 ^ 12 * 2 ^ j.val
      ∧ 88000 ^ 12 * 2 ^ j.val < (2 * noteChz cvs ((j.val : Int) - 2) + 1) ^ 12 * 2 ^ 71 := by
  revert j
  decide

/-! ### The interpolation (R109) -/

/-- The frequency `r` hundredths of the way from semitone `q` to the next. -/
def between (q : Int) (r : Nat) : Nat := noteChz cvs q + (noteChz cvs (q + 1) - noteChz cvs q) * r / 100

theorem between_zero (q : Int) : between q 0 = noteChz cvs q := by simp [between]

theorem noteFreq_eq_between {note : BitVec 7} {c q : Int} {r : Nat} (hr : r < 100)
    (h : (note.toNat : Int) * 100 + c = q * 100 + r) : noteFreq cvs note c = between q r := by
  have hq : ((note.toNat : Int) * 100 + c) / 100 = q := by omega
  have hrem : (((note.toNat : Int) * 100 + c) % 100).toNat = r := by omega
  simp only [noteFreq, hq, hrem]
  split
  · next hzero => rw [hzero, between_zero]
  · rfl

/-- Every pitch is a semitone and a number of hundredths, inside the table (R109). -/
theorem exists_semitone {note : BitVec 7} {c : Int} (hlow : -200 ≤ c) (hhigh : c ≤ 200) :
    ∃ (q : Int) (r : Nat), r < 100 ∧ (note.toNat : Int) * 100 + c = q * 100 + r ∧ -2 ≤ q ∧ q ≤ 129 ∧ (q = 129 → r = 0) := by
  have hnote := note.isLt
  exact ⟨((note.toNat : Int) * 100 + c) / 100, (((note.toNat : Int) * 100 + c) % 100).toNat, by omega, by omega, by omega,
    by omega, by omega⟩

theorem between_le_succ {q : Int} {r : Nat} (hr : r < 100) (hq : -2 ≤ q) (hq' : q < 129) :
    between q r ≤ noteChz cvs (q + 1) := by
  have hlt := noteChz_lt hq (lt_add_one q) (by omega)
  have hstep : (noteChz cvs (q + 1) - noteChz cvs q) * r / 100 ≤ noteChz cvs (q + 1) - noteChz cvs q :=
    Nat.div_le_of_le_mul (by rw [Nat.mul_comm 100]; exact Nat.mul_le_mul_left _ hr.le)
  rw [between]
  omega

theorem between_mono {q : Int} {r r' : Nat} (h : r ≤ r') : between q r ≤ between q r' :=
  Nat.add_le_add_left (Nat.div_le_div_right (Nat.mul_le_mul_left _ h)) _

/-- The frequency does not fall as the pitch rises (R109). -/
theorem noteFreq_mono {note note' : BitVec 7} {c c' : Int} (hlow : -200 ≤ c) (hhigh : c ≤ 200) (hlow' : -200 ≤ c')
    (hhigh' : c' ≤ 200) (h : (note.toNat : Int) * 100 + c ≤ note'.toNat * 100 + c') :
    noteFreq cvs note c ≤ noteFreq cvs note' c' := by
  obtain ⟨q, r, hr, ht, hq, hq129, -⟩ := exists_semitone (note := note) hlow hhigh
  obtain ⟨q', r', hr', ht', hq', hq129', -⟩ := exists_semitone (note := note') hlow' hhigh'
  rw [noteFreq_eq_between hr ht, noteFreq_eq_between hr' ht']
  obtain rfl | hlt : q = q' ∨ q < q' := by omega
  · exact between_mono (by omega)
  · calc between q r ≤ noteChz cvs (q + 1) := between_le_succ hr hq (by omega)
      _ ≤ noteChz cvs q' := noteChz_le (by omega) (by omega) hq129'
      _ ≤ between q' r' := Nat.le_add_right ..

/-- The lowest pitch is note 0 bent down by 200 cents, the highest note 127 bent up by 200. -/
theorem noteFreq_mem (note : BitVec 7) {c : Int} (hlow : -200 ≤ c) (hhigh : c ≤ 200) :
    728 ≤ noteFreq cvs note c ∧ noteFreq cvs note c ≤ 1408000 := by
  have hnote := note.isLt
  have hbottom : noteFreq cvs 0 (-200) = 728 := by decide
  have htop : noteFreq cvs 127 200 = 1408000 := by decide
  have h0 : (0 : BitVec 7).toNat = 0 := rfl
  have h127 : (127 : BitVec 7).toNat = 127 := rfl
  exact ⟨hbottom ▸ noteFreq_mono (by omega) (by omega) hlow hhigh (by omega),
    htop ▸ noteFreq_mono hlow hhigh (by omega) (by omega) (by omega)⟩

/-- Settles O48: the law's two branches, the rising table, and the interpolation between two entries of it. -/
theorem frequencyOperands : Obligations.FrequencyOperands := by
  refine ⟨fun v hv => bendLaw_mem hv, fun v w h _ => bendLaw_mono h, by decide, by decide, by decide,
    fun note c hlow hhigh => noteFreq_mem note hlow hhigh,
    fun note note' c c' hlow hhigh hlow' hhigh' h => noteFreq_mono hlow hhigh hlow' hhigh' h, fun note => ?_, ?_, ?_⟩
  · rw [noteFreq_eq_between (q := note.toNat) (r := 0) (by omega) (by omega), between_zero]
  · rintro j _ rfl
    exact noteChz_law j
  · intro note c q r hlow hhigh hr h
    have hnote := note.isLt
    rw [noteFreq_eq_between hr h]
    refine ⟨fun hzero => by rw [hzero, between_zero], fun hne => ⟨?_, rfl⟩⟩
    exact noteChz_lt (by omega) (lt_add_one q) (by omega)

end Sys2Proof.Frequencies
end

section
/-! PITCH_BEND: the new bend, and the voices of the channel retuned one after another (R107, R170, R180). -/

namespace Sys2Proof.PitchBend

open Sys2Proof.Machine Sys2Proof.AllocatorInvariant Sys2Proof.Frequencies Sys2Proof.CommandMoves

/-! ### Visits that leave the slots alone (R170) -/

/-- The voice in slot `k`, when it is one of MIDI channel `m` that `sel` selects (R170). -/
def voiceAt (s : State) (m : MidiId) (sel : Slot → Bool) (k : SlotId) : Option (SlotId × Handle) :=
  match s.slot[k].lchan with
  | none => none
  | some h => if s.slot[k].midiCh = m ∧ sel s.slot[k] = true then some (k, h) else none

theorem voicesOf_eq (s : State) (m : MidiId) (sel : Slot → Bool) : voicesOf s m sel = allSlots.filterMap (voiceAt s m sel) :=
  rfl

theorem voiceAt_congr {s t : State} (h : t.slot = s.slot) (m : MidiId) (sel : Slot → Bool) :
    voiceAt t m sel = voiceAt s m sel := by
  funext k
  simp only [voiceAt, h]

/-- Visits that change no slot are made to the voices that the command found, in their order (R170). -/
theorem visitVoices_eq_foldl {m : MidiId} {sel visited : Slot → Bool} {body : SlotId → Handle → State → State × Nat}
    (hsel : ∀ x, visited x = true ↔ x.midiCh = m ∧ sel x = true) (hbody : ∀ k h t, (body k h t).1.slot = t.slot)
    (s : State) :
    visitVoices visited body s =
      (voicesOf s m sel).foldl (fun acc kh => ((body kh.1 kh.2 acc.1).1, acc.2 + (body kh.1 kh.2 acc.1).2)) (s, 0) := by
  have hfold : ∀ (l : List SlotId) (acc : State × Nat), acc.1.slot = s.slot →
      l.foldl (fun acc k =>
        match acc.1.slot[k].lchan with
        | none => acc
        | some h => if visited acc.1.slot[k] then ((body k h acc.1).1, acc.2 + (body k h acc.1).2) else acc) acc =
      (l.filterMap (voiceAt s m sel)).foldl
        (fun acc kh => ((body kh.1 kh.2 acc.1).1, acc.2 + (body kh.1 kh.2 acc.1).2)) acc := by
    intro l
    induction l with
    | nil => intro acc _; rfl
    | cons k l ih =>
      intro acc hacc
      rw [List.foldl_cons, List.filterMap_cons]
      simp only [hacc]
      cases hk : s.slot[k].lchan with
      | none =>
        simp only [voiceAt, hk]
        exact ih acc hacc
      | some h =>
        simp only [voiceAt, hk, ← hsel]
        by_cases hv : visited s.slot[k] = true
        · simp only [hv, if_true, List.foldl_cons]
          exact ih _ ((hbody ..).trans hacc)
        · simp only [hv]
          exact ih acc hacc
  exact hfold allSlots (s, 0) rfl

/-! ### Retuning (R129, R180) -/

/-- The state after the voices `held` are given the frequencies of their notes with a bend, in order: block and fnum of each
voice's channel, and its two register writes (R129, R180). -/
def retuned (s : State) (cents : Int) (held : List (SlotId × Handle)) : State :=
  State.sends
    { s with
      chan := held.foldl (fun x kh =>
        x.set (physChan cvs kh.2) (x[physChan cvs kh.2].tuned (noteFreq cvs s.slot[kh.1].note cents))) s.chan }
    (held.flatMap (fun kh =>
      freqWrites (physChan cvs kh.2) (s.chan[physChan cvs kh.2].tuned (noteFreq cvs s.slot[kh.1].note cents))))

/-- A new frequency replaces the one before it. -/
theorem tuned_set (v : Vector Chan 18) (p q : PhysId) (f g : Nat) :
    (v.set p (v[p].tuned f))[q].tuned g = v[q].tuned g := by
  rw [get_set]
  split
  · next h => rw [h]; rfl
  · rfl

theorem retuned_cons (s : State) (cents : Int) (k : SlotId) (h : Handle) (held : List (SlotId × Handle)) :
    retuned s cents ((k, h) :: held) =
      retuned (writeFreq cvs (physChan cvs h) (noteFreq cvs s.slot[k].note cents) s) cents held := by
  have hwrite : writeFreq cvs (physChan cvs h) (noteFreq cvs s.slot[k].note cents) s =
      (s.updChan (physChan cvs h) (fun x => x.tuned (noteFreq cvs s.slot[k].note cents))).sends
        (freqWrites (physChan cvs h) (s.chan[physChan cvs h].tuned (noteFreq cvs s.slot[k].note cents))) :=
    writeFreq_eq ..
  rw [hwrite]
  simp only [retuned, sends_chan, sends_slot, updChan_chan, updChan_slot, tuned_set]
  simp only [State.sends, State.updChan, List.foldl_cons, List.flatMap_cons, List.foldl_append, List.flatMap_append,
    List.append_assoc]

/-- The frequency procedure for a voice, skipped when its handle is not allocated (R311). -/
theorem attempt_setFreq (h : Handle) (freq : Nat) (s : State) :
    attempt (setFreq cvs h freq) s = if s.allocd[h] = true then writeFreq cvs (physChan cvs h) freq s else s := by
  split
  · next ha => exact attempt_ok (setFreq_ok_iff.2 ⟨ha, rfl⟩)
  · next ha => exact attempt_error (by rw [setFreq, if_neg ha])

/-- One voice's part of PITCH_BEND, as the command calls it (R180). -/
def bendVoice (m : MidiId) (k : SlotId) (h : Handle) (t : State) : State × Nat :=
  (attempt (setFreq cvs h (noteFreq cvs t.slot[k].note t.patch[m].bendCents.toInt)) t, 1)

theorem frame_bendVoice (m : MidiId) (k : SlotId) (h : Handle) (t : State) :
    frame (bendVoice m k h t).1 = frame t := frame_attempt fun _ e => frame_setFreq e

/-- The bends of a list of voices, in order: the held ones are retuned, all are counted (R180, R311). -/
theorem bendVoices_eq (m : MidiId) {cents : Int} (voices : List (SlotId × Handle)) : ∀ (s : State) (n : Nat),
    s.patch[m].bendCents.toInt = cents →
    voices.foldl (fun acc kh => ((bendVoice m kh.1 kh.2 acc.1).1, acc.2 + (bendVoice m kh.1 kh.2 acc.1).2)) (s, n) =
      (retuned s cents (voices.filter (fun kh => s.allocd[kh.2])), n + voices.length) := by
  induction voices with
  | nil => intro s n _; simp [retuned]
  | cons kh voices ih =>
    obtain ⟨k, h⟩ := kh
    intro s n hc
    have hframe := frame_bendVoice m k h s
    have hallocd : (bendVoice m k h s).1.allocd = s.allocd := congrArg Frame.allocd hframe
    have hpatch : (bendVoice m k h s).1.patch = s.patch := congrArg Frame.patch hframe
    rw [List.foldl_cons, ih _ _ (by rw [hpatch, hc]), hallocd, List.length_cons]
    refine Prod.ext ?_ (by simp only [bendVoice]; omega)
    simp only [bendVoice, attempt_setFreq, hc, List.filter_cons]
    split
    · rw [retuned_cons]
    · rfl

theorem visit_bendVoice {s : State} {m : MidiId} {cents : Int} (hc : s.patch[m].bendCents.toInt = cents) :
    visitVoices (ofChannel m) (bendVoice m) s =
      (retuned s cents ((voicesOf s m (fun _ => true)).filter (fun kh => s.allocd[kh.2])),
        (voicesOf s m (fun _ => true)).length) := by
  rw [visitVoices_eq_foldl (m := m) (sel := fun _ => true) (by simp [ofChannel])
    (fun k h t => congrArg Frame.slot (frame_bendVoice m k h t)), bendVoices_eq m _ s 0 hc, Nat.zero_add]

theorem midiChannel_eq {a : Byte} {m : MidiId} (h : a.toNat = m.val) : midiChannel a = some m := by
  simp only [midiChannel, h, m.isLt, dif_pos, Fin.eta]

/-- PITCH_BEND with operands in range: the bend is stored, and the channel's voices are visited (R180). -/
theorem exec_pitchBend {a : Byte} {v : BitVec 16} {m : MidiId} (ha : a.toNat = m.val) (hv : v.toNat ≤ 16383) (s : State) :
    exec (.pitchBend a v) s =
      let r := visitVoices (ofChannel m) (bendVoice m)
        (s.updPatch m (fun P => { P with bendCents := BitVec.ofInt 9 (bendLaw v.toNat) }))
      complete (BitVec.ofNat 8 r.2) r.1 := by
  have hin : ¬ 16384 ≤ v.toNat := by omega
  simp only [exec, execPitchBend, midiChannel_eq ha, hin, if_false]
  rfl

/-- A bend of the law is a value of the patch's nine-bit field (R40, R107). -/
theorem bendCents_stored (s : State) (m : MidiId) {cents : Int} (hlow : -200 ≤ cents) (hhigh : cents ≤ 200) :
    (s.updPatch m (fun P => { P with bendCents := BitVec.ofInt 9 cents })).patch[m].bendCents.toInt = cents := by
  have hself : (BitVec.ofInt 9 cents).toInt = cents := BitVec.toInt_ofInt_eq_self (by omega) (by omega) (by omega)
  simpa using hself

/-- Settles O47: the bend is stored, then the voices of the channel are visited, and the visits change no slot. -/
theorem pitchBendRetunes : Obligations.PitchBendRetunes := by
  rintro s a v m cents _ _ ha hv hcents rfl rfl
  obtain rfl : bendLaw v.toNat = cents := hcents.symm
  obtain ⟨hlow, hhigh⟩ := bendLaw_mem hv
  rw [exec_pitchBend ha hv]
  simp only [visit_bendVoice (bendCents_stored s m hlow hhigh)]
  rfl

end Sys2Proof.PitchBend
end

section
/-! What a refused command leaves unchanged (R120, R178, R270). -/

namespace Sys2Proof.Refusals

open Sys2Proof.Machine Sys2Proof.Scope Sys2Proof.CommandMoves

/-! ### A command is carried out, or refused where it stands -/

/-- The command is carried out, or is refused in the state that it found (R120, R270). -/
def RefusedInPlace (s : State) (o : Out) : Prop := (∃ v u, o = complete v u) ∨ ∃ c v, o = refuse c v s

theorem complete_inPlace (s u : State) (v : Byte) : RefusedInPlace s (complete v u) := .inl ⟨v, u, rfl⟩

theorem refuse_inPlace (s : State) (c : Code) (v : Byte) : RefusedInPlace s (refuse c v s) := .inr ⟨c, v, rfl⟩

theorem replyBool_inPlace (s : State) (r : Except Code State) : RefusedInPlace s (replyBool s r) := by
  cases r with
  | ok t => exact complete_inPlace ..
  | error c => exact refuse_inPlace ..

theorem withHandle_inPlace (n : Nat) (call : Handle → State → Except Code State) (s : State) :
    RefusedInPlace s (withHandle n call s) := by
  unfold withHandle
  split
  · exact refuse_inPlace ..
  · exact replyBool_inPlace ..

theorem ctrlCommand_inPlace (a c : Byte) (body : MidiId → BitVec 7 → State → Except Code State) (s : State) :
    RefusedInPlace s (ctrlCommand a c body s) := by
  unfold ctrlCommand
  split
  · split
    · exact complete_inPlace ..
    · exact refuse_inPlace ..
  · exact refuse_inPlace ..

theorem opCtrl_inPlace (w : Nat) (put : Nat → Template → Template) (how : OpApply) (a : Byte) (i : BitVec 2) (c : Byte)
    (s : State) : RefusedInPlace s (opCtrl cvs w put how a i c s) := ctrlCommand_inPlace ..

/-- The general CTRL row is refused at once, or acts as the row of its controller (R200, R224, log 11). -/
theorem ctrl_inPlace (a b c : Byte) (s : State) : RefusedInPlace s (execCtrl a b c s) := by
  simp only [execCtrl]
  split
  iterate 6 exact ctrlCommand_inPlace ..
  iterate 13 exact opCtrl_inPlace ..
  iterate 3 exact ctrlCommand_inPlace ..
  exact refuse_inPlace ..

theorem noteOff_inPlace (a b : Byte) (s : State) : RefusedInPlace s (execNoteOff a b s) := by
  unfold execNoteOff
  split
  · exact complete_inPlace ..
  · exact refuse_inPlace ..

theorem pitchBend_inPlace (a : Byte) (v : BitVec 16) (s : State) : RefusedInPlace s (execPitchBend a v s) := by
  unfold execPitchBend
  split
  · exact refuse_inPlace ..
  · split
    · exact refuse_inPlace ..
    · exact complete_inPlace ..

theorem alloc_inPlace (a : Byte) (s : State) : RefusedInPlace s (execAlloc a s) := by
  unfold execAlloc
  split
  · exact refuse_inPlace ..
  · split
    · exact complete_inPlace ..
    · exact refuse_inPlace ..

theorem percEnable_inPlace (s : State) : RefusedInPlace s (execPercEnable s) := by
  unfold execPercEnable
  split
  · exact refuse_inPlace ..
  · exact complete_inPlace ..

theorem percDisable_inPlace (s : State) : RefusedInPlace s (execPercDisable s) := by
  unfold execPercDisable
  split
  · exact refuse_inPlace ..
  · exact complete_inPlace ..

theorem getOpType_inPlace (a b : Byte) (s : State) : RefusedInPlace s (execGetOpType a b s) := by
  unfold execGetOpType
  split
  · exact refuse_inPlace ..
  · exact complete_inPlace ..

theorem getOpCount_inPlace (a : Byte) (s : State) : RefusedInPlace s (execGetOpCount a s) := by
  unfold execGetOpCount
  split
  · exact refuse_inPlace ..
  · exact complete_inPlace ..

/-- Every command but NOTE_ON. -/
theorem exec_inPlace {i : Instr} (hn : isNoteOn i = false) (s : State) :
    RefusedInPlace s (exec i s) := by
  cases i <;> simp only [exec]
  case noteOn => cases hn
  case nop | service | init | detect => exact complete_inPlace ..
  case noteOff => exact noteOff_inPlace ..
  case pitchBend => exact pitchBend_inPlace ..
  case alloc => exact alloc_inPlace ..
  case percEnable => exact percEnable_inPlace ..
  case percDisable => exact percDisable_inPlace ..
  case getOpType => exact getOpType_inPlace ..
  case getOpCount => exact getOpCount_inPlace ..
  case ctrl => exact ctrl_inPlace ..
  case ctrlProgram | ctrlVolume | ctrlAlgorithm | ctrlFeedback | ctrlOutput | ctrlLfoDelay | ctrlSustainPedal
    | ctrlAllSoundOff | ctrlAllNotesOff => exact ctrlCommand_inPlace ..
  case ctrlOpAttack | ctrlOpDecay | ctrlOpSustain | ctrlOpRelease | ctrlOpWaveform | ctrlOpLevel | ctrlOpKsl
    | ctrlOpMult | ctrlOpTremolo | ctrlOpVibrato | ctrlOpSusflag | ctrlOpEnvscale | ctrlOpVelsens =>
    exact opCtrl_inPlace ..
  case free | keyOn | keyOff | setFreq | setOutput | setFeedback | setAlgorithm | setOpAttack | setOpDecay
    | setOpSustain | setOpRelease | setOpWaveform | setOpAttenuation | setOpKsl | setOpMult | setOpTremolo
    | setOpVibrato | setOpSusflag | setOpEnvscale => exact withHandle_inPlace ..

/-! ### NOTE_ON, which may keep its steal (R178) -/

/-- The state after the steal of the first Releasing voice (R178). -/
def FirstStolen (s u : State) : Prop :=
  ∃ (v : SlotId) (h : Handle), s.slot[v].lchan = some h ∧ s.slot[v].releasing = true
    ∧ (∀ j : SlotId, j < v → s.slot[j].lchan = none ∨ s.slot[j].releasing = false) ∧ u = s.stolen v h

/-- The slots in ascending order are all of them, in ascending order (R170). -/
theorem allSlots_eq : allSlots = List.finRange 23 := by decide

/-- The steal's victim is Releasing, and no slot below it is (R178). -/
theorem firstReleasing_some {s : State} {v : SlotId} (e : firstReleasing s = some v) :
    (∃ h, s.slot[v].lchan = some h) ∧ s.slot[v].releasing = true
      ∧ ∀ j : SlotId, j < v → s.slot[j].lchan = none ∨ s.slot[j].releasing = false := by
  rw [firstReleasing, allSlots_eq, ← Fin.find?_eq_find?_finRange, Fin.find?_eq_some_iff] at e
  obtain ⟨hv, hbelow⟩ := e
  simp only [Bool.and_eq_true] at hv
  refine ⟨Option.isSome_iff_exists.1 hv.1, hv.2, fun j hj => ?_⟩
  simpa only [Bool.and_eq_false_iff, Option.isSome_eq_false_iff, Option.isNone_iff_eq_none] using hbelow j hj

/-- Where step (3) of NOTE_ON obtains no handle, it changed nothing or kept its one steal (R172, R178). -/
theorem allocOrSteal_none {c : ChType} {s u : State} (e : allocOrSteal cvs c s = (none, u)) :
    u = s ∨ FirstStolen s u := by
  simp only [allocOrSteal] at e
  split at e
  · cases e
  · split at e
    · cases e
      exact .inl rfl
    · rename_i v hv
      obtain ⟨⟨h, hbound⟩, hreleasing, hfirst⟩ := firstReleasing_some hv
      rw [stealVoice_eq hbound] at e
      split at e
      · cases e
      · cases e
        exact .inr ⟨v, h, hbound, hreleasing, hfirst, rfl⟩

/-- NOTE_ON is carried out, or refused in place, or refused with its steal kept (R172, R178). -/
theorem noteOn_cases (a b c : Byte) (s : State) : RefusedInPlace s (execNoteOn a b c s)
    ∨ ∃ u, FirstStolen s u ∧ execNoteOn a b c s = refuse .resourceExhausted 0xFF u := by
  unfold execNoteOn
  split
  · split
    · exact .inl (refuse_inPlace ..)
    · split
      · next e =>
        rcases allocOrSteal_none e with rfl | hstolen
        · exact .inl (refuse_inPlace ..)
        · exact .inr ⟨_, hstolen, rfl⟩
      · exact .inl (complete_inPlace ..)
  · exact .inl (refuse_inPlace ..)

/-! ### The refusal -/

/-- A code other than OK, from a command that is carried out or refused in place: only the answer is new (R270). -/
theorem eq_of_refusedInPlace {s t : State} (h : RefusedInPlace s (.next t))
    (hcode : (t.result.extractLsb' 8 8 : Byte) ≠ 0) : t = { s with result := t.result, busy := false } := by
  obtain ⟨v, u, e⟩ | ⟨c, v, e⟩ := h
  · obtain rfl : t = u.answer .ok v := Host.Outcome.next.inj e
    exact absurd (resultWord_code .ok v) hcode
  · obtain rfl : t = s.answer c v := Host.Outcome.next.inj e
    rfl

/-- Settles O25: every command but NOTE_ON is refused in place, and NOTE_ON so or after its one steal. -/
theorem refusalChangesNothing : Obligations.RefusalChangesNothing := by
  intro i s t e hcode
  by_cases hn : isNoteOn i = true
  · cases i with
    | noteOn a b c =>
      rcases noteOn_cases a b c s with h | ⟨u, ⟨v, h, hbound, hreleasing, hfirst, rfl⟩, hrefuse⟩
      · exact .inl (eq_of_refusedInPlace (e ▸ h) hcode)
      · obtain rfl : t = (s.stolen v h).answer .resourceExhausted 0xFF := Host.Outcome.next.inj (e.symm.trans hrefuse)
        exact .inr ⟨⟨a, b, c, rfl⟩, v, h, hbound, hreleasing, hfirst, rfl⟩
    | _ => cases hn
  · exact .inl (eq_of_refusedInPlace (e ▸ exec_inPlace (Bool.eq_false_iff.2 hn) s) hcode)

end Sys2Proof.Refusals
end

section
/-! The commands on a handle, said once: carried out on a held handle, refused on any other number (R120, R121). -/

namespace Sys2Proof.HandleCommands

open Sys2Proof.Machine

/-! ### The handle operand (R82, R121) -/

theorem handleOf_of_eq {n : Nat} {h : Handle} (hn : n = h.val) : handleOf n = some h := handleOf_eq_some.2 hn

/-- No handle is held under the number `n`: it is above 22, or the handle is not allocated (R121). -/
def NotHeld (s : State) (n : Nat) : Prop := ∀ h : Handle, h.val = n → s.allocd[h] = false

/-- The procedure is refused of a handle that is not allocated (R121). -/
def NeedsHandle (call : Handle → State → Except Code State) : Prop :=
  ∀ (h : Handle) (s : State), s.allocd[h] = false → call h s = .error .invalidHandle

section WithHandle
variable {n : Nat} {h : Handle} {call : Handle → State → Except Code State} {s t : State}

theorem withHandle_ok (hn : n = h.val) (e : call h s = .ok t) : withHandle n call s = .next (t.answer .ok 1) := by
  simp only [withHandle, handleOf_of_eq hn, e]
  rfl

theorem withHandle_error {c : Code} (hn : n = h.val) (e : call h s = .error c) :
    withHandle n call s = .next (s.answer c 0) := by
  simp only [withHandle, handleOf_of_eq hn, e]
  rfl

theorem withHandle_notHeld (hcall : NeedsHandle call) (hs : NotHeld s n) :
    withHandle n call s = .next (s.answer .invalidHandle 0) := by
  cases hn : handleOf n with
  | none =>
    simp only [withHandle, hn]
    rfl
  | some h =>
    obtain rfl := handleOf_eq_some.1 hn
    exact withHandle_error rfl (hcall h s (hs h rfl))

end WithHandle

/-! ### The procedures of a handle that is not allocated (R121) -/

theorem freeHandle_needs : NeedsHandle freeHandle := fun _ _ ha => by simp [freeHandle, ha]
theorem setKey_needs (on : Bool) : NeedsHandle (setKey cvs on) := fun _ _ ha => by simp [setKey, ha]
theorem setFreq_needs (freq : Nat) : NeedsHandle (fun h => setFreq cvs h freq) := fun _ _ ha => by simp [setFreq, ha]
theorem setOp_needs (f : OpField) (i v : Nat) : NeedsHandle (fun h => setOp cvs f h i v) :=
  fun _ _ ha => by simp [setOp, ha]
theorem setOutput_needs (v : Nat) : NeedsHandle (fun h => setOutput cvs h v) := fun _ _ ha => by simp [setOutput, ha]
theorem setFeedback_needs (v : Nat) : NeedsHandle (fun h => setFeedback cvs h v) :=
  fun _ _ ha => by simp [setFeedback, ha]
theorem setAlgorithm_needs (v : Nat) : NeedsHandle (fun h => setAlgorithm cvs h v) :=
  fun _ _ ha => by simp [setAlgorithm, ha]

/-! ### The commands -/

section Commands
variable (a b v : Byte) (s : State)

theorem exec_free : exec (.free a) s = withHandle a.toNat freeHandle s := rfl
theorem exec_keyOn : exec (.keyOn a) s = withHandle a.toNat (setKey cvs true) s := rfl
theorem exec_keyOff : exec (.keyOff a) s = withHandle a.toNat (setKey cvs false) s := rfl
theorem exec_setFreq (h : BitVec 5) (freq : BitVec 26) :
    exec (.setFreq h freq) s = withHandle h.toNat (fun g => setFreq cvs g freq.toNat) s := rfl
theorem exec_setOutput : exec (.setOutput a v) s = withHandle a.toNat (fun h => setOutput cvs h v.toNat) s := rfl
theorem exec_setFeedback : exec (.setFeedback a v) s = withHandle a.toNat (fun h => setFeedback cvs h v.toNat) s := rfl
theorem exec_setAlgorithm : exec (.setAlgorithm a v) s = withHandle a.toNat (fun h => setAlgorithm cvs h v.toNat) s := rfl

end Commands

/-- A SET_OP_* command is `setOp` of one field, with the operands of its row (R132 to R144). -/
theorem exec_setOp {i : Instr} {b v : Byte} {w : Nat} (hi : setOpOperands i = some (b, v, w)) :
    ∃ (f : OpField) (a : Byte), f.width = w ∧ handleOperand i = some a.toNat ∧ ∀ s, exec i s = setOpCommand cvs f a b v s := by
  cases i <;> cases hi
  case setOpAttack a => exact ⟨.ar, a, rfl, rfl, fun _ => rfl⟩
  case setOpDecay a => exact ⟨.dr, a, rfl, rfl, fun _ => rfl⟩
  case setOpSustain a => exact ⟨.sl, a, rfl, rfl, fun _ => rfl⟩
  case setOpRelease a => exact ⟨.rr, a, rfl, rfl, fun _ => rfl⟩
  case setOpWaveform a => exact ⟨.ws, a, rfl, rfl, fun _ => rfl⟩
  case setOpAttenuation a => exact ⟨.tl, a, rfl, rfl, fun _ => rfl⟩
  case setOpKsl a => exact ⟨.ksl, a, rfl, rfl, fun _ => rfl⟩
  case setOpMult a => exact ⟨.mult, a, rfl, rfl, fun _ => rfl⟩
  case setOpTremolo a => exact ⟨.trem, a, rfl, rfl, fun _ => rfl⟩
  case setOpVibrato a => exact ⟨.vib, a, rfl, rfl, fun _ => rfl⟩
  case setOpSusflag a => exact ⟨.sus, a, rfl, rfl, fun _ => rfl⟩
  case setOpEnvscale a => exact ⟨.ksr, a, rfl, rfl, fun _ => rfl⟩

/-- A SET_OP_* command as a procedure that needs its handle held (R121, R132). -/
theorem exec_setOp_handle {i : Instr} {n w : Nat} {b v : Byte} (hop : setOpOperands i = some (b, v, w))
    (hi : handleOperand i = some n) : ∃ call, NeedsHandle call ∧ ∀ s, exec i s = withHandle n call s := by
  obtain ⟨f, a, -, ha, hexec⟩ := exec_setOp hop
  obtain rfl : a.toNat = n := Option.some.inj (ha.symm.trans hi)
  exact ⟨_, setOp_needs f b.toNat v.toNat, hexec⟩

/-- A command with a handle operand is a procedure that needs the handle held (R121). -/
theorem exec_handle {i : Instr} {n : Nat} (hi : handleOperand i = some n) :
    ∃ call, NeedsHandle call ∧ ∀ s, exec i s = withHandle n call s := by
  cases i <;> cases hi
  case free a => exact ⟨_, freeHandle_needs, exec_free a⟩
  case keyOn a => exact ⟨_, setKey_needs true, exec_keyOn a⟩
  case keyOff a => exact ⟨_, setKey_needs false, exec_keyOff a⟩
  case setFreq h freq => exact ⟨_, setFreq_needs freq.toNat, fun s => exec_setFreq s h freq⟩
  case setOutput a v => exact ⟨_, setOutput_needs v.toNat, exec_setOutput a v⟩
  case setFeedback a v => exact ⟨_, setFeedback_needs v.toNat, exec_setFeedback a v⟩
  case setAlgorithm a v => exact ⟨_, setAlgorithm_needs v.toNat, exec_setAlgorithm a v⟩
  case setOpAttack | setOpDecay | setOpSustain | setOpRelease | setOpWaveform | setOpAttenuation | setOpKsl | setOpMult
    | setOpTremolo | setOpVibrato | setOpSusflag | setOpEnvscale => exact exec_setOp_handle rfl rfl

/-- Settles O35: every such command is a procedure that needs its handle held. -/
theorem invalidHandleRefused : Obligations.InvalidHandleRefused := by
  intro i n s hi hs
  obtain ⟨call, hcall, hexec⟩ := exec_handle hi
  rw [hexec]
  exact withHandle_notHeld hcall hs

/-! ### FREE (R126) -/

/-- Settles O33: `freeHandle` on a held handle, by channel and by role, and its refusal. -/
theorem freeReturnsHandle : Obligations.FreeReturnsHandle := by
  refine ⟨fun s a c ha hheld => ?_, fun s a r ha hheld => ?_, fun s a hs => withHandle_notHeld freeHandle_needs hs⟩
  · rw [exec_free, withHandle_ok (h := physHandle c) ha (freeHandle_ok_iff.2 ⟨hheld, rfl⟩)]
    simp only [State.freed, physOrRole_phys]
  · rw [exec_free, withHandle_ok (h := roleHandle r) ha (freeHandle_ok_iff.2 ⟨hheld, rfl⟩)]
    simp only [State.freed, physOrRole_role]

/-! ### KEY_ON and KEY_OFF (R130, R131) -/

theorem withHandle_setKey_phys {on : Bool} {a : Byte} {c : PhysId} {s : State} (ha : a.toNat = c.val)
    (hheld : s.allocd[physHandle c] = true) :
    withHandle a.toNat (setKey cvs on) s = .next ((State.sends
      { s with chan := s.chan.set c (s.chan[c].keyed (BitVec.ofBool on)) }
      [(chReg c 0xB0, (s.chan[c].keyed (BitVec.ofBool on)).keyBlockByte cvs)]).answer .ok 1) := by
  rw [withHandle_ok (h := physHandle c) ha (setKey_ok_iff.2 ⟨hheld, rfl⟩), writeKey_phys]
  rfl

theorem withHandle_setKey_role {on : Bool} {a : Byte} {r : RoleId} {s : State} (ha : a.toNat = 18 + r.val)
    (hheld : s.allocd[roleHandle r] = true) :
    withHandle a.toNat (setKey cvs on) s = .next ((State.sends { s with percKey := s.percKey.set r on }
      [((0, 0xBD), percussionByte cvs s.percEnabled (s.percKey.set r on))]).answer .ok 1) := by
  rw [withHandle_ok (h := roleHandle r) ha (setKey_ok_iff.2 ⟨hheld, rfl⟩), writeKey_role]

/-- Settles O38: the key procedure on a channel, on a role, and on a number that is not held. -/
theorem keyWrites : Obligations.KeyWrites :=
  ⟨fun _ _ _ ha hheld => ⟨withHandle_setKey_phys ha hheld, withHandle_setKey_phys ha hheld⟩,
    fun _ _ _ ha hheld => ⟨withHandle_setKey_role ha hheld, withHandle_setKey_role ha hheld⟩,
    fun _ _ hs => ⟨withHandle_notHeld (setKey_needs true) hs, withHandle_notHeld (setKey_needs false) hs⟩⟩

end Sys2Proof.HandleCommands
end

section
/-! The frequency number of SET_FREQ: its block by the ceilings, and the clamped quotient (R129). -/

namespace Sys2Proof.FrequencyNumber

open Sys2Proof.Machine

/-! ### The block -/

theorem freqBlock_find (freq : Nat) :
    freqBlock cvs freq = ((List.range 8).find? (fun b => freq < 4850 * 2 ^ b)).getD 7 := rfl

theorem freqBlock_le_seven (freq : Nat) : freqBlock cvs freq ≤ 7 := by
  rw [freqBlock_find]
  cases e : (List.range 8).find? (fun b => freq < 4850 * 2 ^ b) with
  | none => exact le_rfl
  | some b =>
    have hb : b < 8 := List.mem_range.1 (List.mem_of_find?_eq_some e)
    exact Nat.le_of_lt_succ hb

/-- The ceilings rise with the block. -/
theorem ceiling_mono {b b' : Nat} (h : b ≤ b') : 4850 * 2 ^ b ≤ 4850 * 2 ^ b' :=
  Nat.mul_le_mul_left _ (Nat.pow_le_pow_right (by decide) h)

/-- Below 7, a frequency's block is at most `b` exactly where the ceiling of `b` exceeds it. -/
theorem freqBlock_le_iff {freq b : Nat} (hb : b < 7) : freqBlock cvs freq ≤ b ↔ freq < 4850 * 2 ^ b := by
  rw [freqBlock_find]
  cases e : (List.range 8).find? (fun b => freq < 4850 * 2 ^ b) with
  | none =>
    have hover : ¬ freq < 4850 * 2 ^ b := by
      simpa using List.find?_eq_none.1 e b (List.mem_range.2 (by omega))
    exact iff_of_false (not_le.2 hb) hover
  | some i =>
    obtain ⟨hi, -, hbelow⟩ := List.find?_range_eq_some.1 e
    have hlt : freq < 4850 * 2 ^ i := of_decide_eq_true hi
    constructor
    · intro hle
      exact hlt.trans_le (ceiling_mono hle)
    · intro hb
      by_contra hlow
      have hover : ¬ freq < 4850 * 2 ^ b := by simpa using hbelow b (not_le.1 hlow)
      exact hover hb

theorem lt_freqBlock_iff {freq b : Nat} (hb : b < 7) : b < freqBlock cvs freq ↔ 4850 * 2 ^ b ≤ freq := by
  rw [← not_le, freqBlock_le_iff hb, not_lt]

/-- The least exponent whose ceiling exceeds the frequency, and 7 where there is none, is the block. -/
theorem freqBlock_eq {freq b : Nat} (hb : (b ≤ 7 ∧ freq < 4850 * 2 ^ b) ∨ b = 7)
    (hleast : ∀ b' < b, 4850 * 2 ^ b' ≤ freq) : freqBlock cvs freq = b := by
  have hseven := freqBlock_le_seven freq
  have hle : b ≤ 7 := by omega
  apply le_antisymm
  · rcases hle.lt_or_eq with hlt | rfl
    · exact (freqBlock_le_iff hlt).2 (hb.resolve_right hlt.ne).2
    · exact hseven
  · cases b with
    | zero => exact Nat.zero_le _
    | succ b' => exact (lt_freqBlock_iff (by omega)).2 (hleast b' (Nat.lt_succ_self b'))

theorem freqBlock_mono {f g : Nat} (h : f ≤ g) : freqBlock cvs f ≤ freqBlock cvs g := by
  rcases (freqBlock_le_seven g).lt_or_eq with hlt | heq
  · exact (freqBlock_le_iff hlt).2 (h.trans_lt ((freqBlock_le_iff hlt).1 le_rfl))
  · exact heq ▸ freqBlock_le_seven f

/-- From half the top ceiling on the block is 7. -/
theorem freqBlock_eq_seven {f : Nat} (hf : 310400 ≤ f) : freqBlock cvs f = 7 :=
  le_antisymm (freqBlock_le_seven f) ((lt_freqBlock_iff (b := 6) (by decide)).2 hf)

/-! ### The frequency number -/

theorem freqNumber_eq (freq : Nat) :
    freqNumber cvs freq = min 1023 (freq * 2 ^ (20 - freqBlock cvs freq) / 4971600) := rfl

theorem freqNumber_le (freq : Nat) : freqNumber cvs freq ≤ 1023 := min_le_left ..

theorem freqNumber_mono {f g : Nat} (h : f ≤ g) (hblock : freqBlock cvs f = freqBlock cvs g) :
    freqNumber cvs f ≤ freqNumber cvs g := by
  rw [freqNumber_eq, freqNumber_eq, hblock]
  exact min_le_min_left _ (Nat.div_le_div_right (Nat.mul_le_mul_right _ h))

/-- In block 7 the quotient is of the frequency times 2 ^ 13. -/
theorem freqNumber_of_seven {f : Nat} (hf : freqBlock cvs f = 7) :
    freqNumber cvs f = min 1023 (f * 8192 / 4971600) := by
  rw [freqNumber_eq, hf]
  rfl

/-- Under its ceiling the quotient does not reach the clamp. -/
theorem freqNumber_lt_clamp {f : Nat} (hf : freqBlock cvs f < 7) : freqNumber cvs f ≤ 1022 := by
  have hceil : f < 4850 * 2 ^ freqBlock cvs f := (freqBlock_le_iff hf).1 le_rfl
  have hscaled : f * 2 ^ (20 - freqBlock cvs f) < 5085593600 := calc
    f * 2 ^ (20 - freqBlock cvs f) < 4850 * 2 ^ freqBlock cvs f * 2 ^ (20 - freqBlock cvs f) :=
      Nat.mul_lt_mul_of_pos_right hceil (Nat.two_pow_pos _)
    _ = 4850 * 2 ^ 20 := by rw [mul_assoc, ← pow_add, Nat.add_sub_cancel' (by omega)]
    _ = 5085593600 := by decide
  rw [freqNumber_eq]
  omega

/-- Settles O37: the block by the ceilings, the number by its quotient. -/
theorem frequencyLaw : Obligations.FrequencyLaw := by
  refine ⟨fun freq => ⟨freqBlock_le_seven freq, freqNumber_le freq⟩,
    fun f g h => ⟨freqBlock_mono h, freqNumber_mono h⟩, by decide, fun f hf => ?_, fun f hlow hhigh => ?_,
    fun f hf => freqNumber_lt_clamp hf⟩
  · have hblock := freqBlock_eq_seven (f := f) (by omega)
    have hnumber := freqNumber_of_seven hblock
    exact ⟨hblock, by omega⟩
  · have hblock := freqBlock_eq_seven (f := f) (by omega)
    have hnumber := freqNumber_of_seven hblock
    exact ⟨hblock, by omega⟩

end Sys2Proof.FrequencyNumber
end

section
/-! SET_FREQ, the operator setters and the channel setters: the next state of a held handle, and the range tests
(R129, R132 to R147). -/

namespace Sys2Proof.Setters

open Sys2Proof.Machine Sys2Proof.HandleCommands Sys2Proof.FrequencyNumber

/-! ### SET_FREQ (R129) -/

/-- Settles O36: the named block and number are those of the model, and the procedure writes the two registers. -/
theorem setFreqWrites : Obligations.SetFreqWrites := by
  rintro s hh freq h _ b f hn hheld rfl hb hleast rfl
  have hblock : freqBlock cvs freq.toNat = b := freqBlock_eq hb hleast
  have hnumber : freqNumber cvs freq.toNat = min 1023 (freq.toNat * 2 ^ (20 - b) / 4971600) := by
    rw [freqNumber_eq, hblock]
  refine ⟨_, rfl, ?_⟩
  rw [exec_setFreq, withHandle_ok hn (setFreq_ok_iff.2 ⟨hheld, rfl⟩), writeFreq_eq, hblock, hnumber]
  rfl

/-! ### The operator setters (R132 to R144) -/

section Operator
variable {f : OpField} {a b v : Byte} {h : Handle} {s : State}

/-- A setter on a held handle, with an operator of that index and a value that fits: the operator's new entry `o`, and the
byte of its register. -/
theorem setOpCommand_eq {n : OperId} {o : Oper} {byte : Byte} (ha : a.toNat = h.val) (hheld : s.allocd[h] = true)
    (hn : (opsOf cvs s h)[b.toNat]? = some n) (hv : v.toNat < 2 ^ f.width) (ho : f.put v.toNat s.oper[n] = o)
    (hbyte : f.byte o = byte) : setOpCommand cvs f a b v s = .next (s.operSet n o f.base byte) := by
  subst ho hbyte
  exact withHandle_ok ha (setOp_ok_iff.2 ⟨hheld, hv, n, hn, rfl⟩)

/-- A setter on a held handle with an index or a value out of range. -/
theorem setOpCommand_outOfRange (ha : a.toNat = h.val) (hheld : s.allocd[h] = true)
    (hrange : opCount cvs s h ≤ b.toNat ∨ 2 ^ f.width ≤ v.toNat) :
    setOpCommand cvs f a b v s = .next (s.answer .outOfRange 0) := by
  refine withHandle_error ha ?_
  cases hn : (opsOf cvs s h)[b.toNat]? with
  | none => simp [setOp, hheld, hn]
  | some n =>
    have hindex : b.toNat < opCount cvs s h := (List.getElem?_eq_some_iff.1 hn).1
    have hvalue : ¬ v.toNat < 2 ^ f.width := by omega
    simp [setOp, hheld, hn, hvalue]

end Operator

/-- A waveform that fits is its register's byte (R100). -/
theorem waveByte_of_lt {o : Oper} {v : Byte} (hv : v.toNat < 8) :
    Oper.waveByte cvs { o with ws := v.setWidth 3 } = v := by
  apply BitVec.eq_of_toNat_eq
  rw [Operands.toNat_waveByte, BitVec.toNat_setWidth]
  omega

/-- Settles O39: each setter puts its field, and writes the byte that the cache then gives. -/
theorem setOpWrites : Obligations.SetOpWrites := by
  rintro s a b v h n _ ha hheld hn rfl
  have hset (f : OpField) (o : Oper) (byte : Byte) (hv : v.toNat < 2 ^ f.width) (ho : f.put v.toNat s.oper[n] = o)
      (hbyte : f.byte o = byte) : setOpCommand cvs f a b v s = .next (s.operSet n o f.base byte) :=
    setOpCommand_eq ha hheld hn hv ho hbyte
  have hput (w : Nat) : BitVec.ofNat w v.toNat = v.setWidth w := BitVec.ofNat_toNat ..
  refine ⟨fun hv => ⟨?_, ?_, ?_, ?_, ?_⟩, fun hv => ?_, fun hv => ?_, fun hv => ?_, fun hv => ⟨?_, ?_, ?_, ?_⟩⟩
  · exact hset .ar _ _ hv (by rw [OpField.put, hput]) (attackDecayByte_eq _)
  · exact hset .dr _ _ hv (by rw [OpField.put, hput]) (attackDecayByte_eq _)
  · exact hset .sl _ _ hv (by rw [OpField.put, hput]) (sustainReleaseByte_eq _)
  · exact hset .rr _ _ hv (by rw [OpField.put, hput]) (sustainReleaseByte_eq _)
  · exact hset .mult _ _ hv (by rw [OpField.put, hput]) (flagsByte_eq _)
  · exact hset .ws _ _ hv (by rw [OpField.put, hput]) (waveByte_of_lt hv)
  · exact hset .tl _ _ hv (by rw [OpField.put, hput]) (levelByte_eq _)
  · exact hset .ksl _ _ hv (by rw [OpField.put, hput]) (levelByte_eq _)
  · exact hset .trem _ _ hv (by rw [OpField.put, hput]) (flagsByte_eq _)
  · exact hset .vib _ _ hv (by rw [OpField.put, hput]) (flagsByte_eq _)
  · exact hset .sus _ _ hv (by rw [OpField.put, hput]) (flagsByte_eq _)
  · exact hset .ksr _ _ hv (by rw [OpField.put, hput]) (flagsByte_eq _)

/-! ### The channel setters (R145 to R147) -/

theorem singleOp_iff (t : ChType) : t.singleOp = true ↔ t ∈ ([.snare, .tomTom, .cymbal, .hiHat] : List ChType) := by
  cases t <;> decide

section Channel
variable {h : Handle} {v : Nat} {s : State}

theorem setOutput_outOfRange (hheld : s.allocd[h] = true) (hv : 15 < v) : setOutput cvs h v s = .error .outOfRange := by
  have hout : ¬ v < 16 := by omega
  simp [setOutput, hheld, hout]

theorem setFeedback_outOfRange (hheld : s.allocd[h] = true) (hrange : (ctypeOf s h).singleOp = true ∨ 7 < v) :
    setFeedback cvs h v s = .error .outOfRange := by
  have hout : ((ctypeOf s h).singleOp || decide (8 ≤ v)) = true := by
    simpa [Nat.succ_le_iff] using hrange
  simp [setFeedback, hheld, hout]

/-- A channel with two operators takes the algorithms 0 and 1 (R147). -/
theorem setAlgorithm_two (hheld : s.allocd[h] = true) (ht : ctypeOf s h = .twoOp ∨ ctypeOf s h = .kick) :
    setAlgorithm cvs h v s =
      if v < 2 then .ok (s.connect [physChan cvs h] (fun x => { x with cnt := BitVec.ofNat 1 v })) else .error .outOfRange := by
  rcases ht with ht | ht <;> simp only [setAlgorithm, hheld, ht, if_true, connect_one]

/-- A FourOp channel takes the algorithms 0 to 3, one bit in each half (R147). -/
theorem setAlgorithm_four (hheld : s.allocd[h] = true) (ht : ctypeOf s h = .fourOp) :
    setAlgorithm cvs h v s =
      if v < 4 then
        .ok ((s.connect [physChan cvs h] (fun x => { x with cnt := BitVec.ofNat 1 (v / 2) })).connect
          [secondary (physChan cvs h)] (fun x => { x with cnt := BitVec.ofNat 1 v }))
      else .error .outOfRange := by
  simp only [setAlgorithm, hheld, ht, if_true, connect_one]

/-- A role with one operator takes no algorithm (R147). -/
theorem setAlgorithm_single (hheld : s.allocd[h] = true) (ht : (ctypeOf s h).singleOp = true) :
    setAlgorithm cvs h v s = .error .outOfRange := by
  cases hc : ctypeOf s h with
  | null | twoOp | fourOp | kick => simp [hc, ChType.singleOp] at ht
  | snare | tomTom | cymbal | hiHat => simp only [setAlgorithm, hheld, hc, if_true]

theorem setAlgorithm_outOfRange (hheld : s.allocd[h] = true)
    (hrange : (ctypeOf s h).singleOp = true ∨ ((ctypeOf s h = .twoOp ∨ ctypeOf s h = .kick) ∧ 1 < v)
      ∨ (ctypeOf s h = .fourOp ∧ 3 < v)) : setAlgorithm cvs h v s = .error .outOfRange := by
  obtain ht | ⟨ht, hv⟩ | ⟨ht, hv⟩ := hrange
  · exact setAlgorithm_single hheld ht
  · rw [setAlgorithm_two hheld ht, if_neg (by omega)]
  · rw [setAlgorithm_four hheld ht, if_neg (by omega)]

end Channel

/-- Settles O40: the operator setters by their common rule, the three channel setters by their tests. -/
theorem setterRangeRefused : Obligations.SetterRangeRefused := by
  refine ⟨fun i s h b v w hi hheld hop hrange => ?_, fun s a v h ha hheld => ⟨fun hv => ?_, fun hrange => ?_, fun hrange => ?_⟩⟩
  · obtain ⟨f, a, rfl, ha, hexec⟩ := exec_setOp hop
    rw [hexec]
    exact setOpCommand_outOfRange (Option.some.inj (ha.symm.trans hi)) hheld hrange
  · exact withHandle_error ha (setOutput_outOfRange hheld hv)
  · rw [← singleOp_iff] at hrange
    exact withHandle_error ha (setFeedback_outOfRange hheld hrange)
  · rw [← singleOp_iff, List.mem_pair] at hrange
    exact withHandle_error ha (setAlgorithm_outOfRange hheld hrange)

/-- A change of one channel's entry with its register write (R103). -/
theorem connect_single (s : State) (c : PhysId) (put : Chan → Chan) :
    s.connect [c] put = State.sends { s with chan := s.chan.set c (put s.chan[c]) }
      [(chReg c 0xC0, (put s.chan[c]).outputByte cvs)] := rfl

/-- A change of a channel's entry and then of its secondary's, each with its register write (R103). -/
theorem connect_pair (s : State) (c : PhysId) (put put' : Chan → Chan) :
    (s.connect [c] put).connect [secondary c] put' =
      State.sends { s with chan := (s.chan.set c (put s.chan[c])).set (secondary c) (put' s.chan[secondary c]) }
        [(chReg c 0xC0, (put s.chan[c]).outputByte cvs),
         (chReg (secondary c) 0xC0, (put' s.chan[secondary c]).outputByte cvs)] := by
  have hother : (s.chan.set c (put s.chan[c]))[secondary c] = s.chan[secondary c] := by simp [(secondary_ne c).symm]
  rw [connect_single, connect_single]
  simp only [sends_chan, hother]
  simp only [State.sends, List.flatMap_cons, List.flatMap_nil, List.append_nil, List.append_assoc, List.foldl_cons,
    List.foldl_nil]

/-- The two connection bits of a FourOp algorithm (R147). -/
theorem highBit_eq_extract (v : Byte) : BitVec.ofNat 1 (v.toNat / 2) = v.extractLsb' 1 1 := by
  apply BitVec.eq_of_toNat_eq
  simp [BitVec.extractLsb'_toNat, Nat.shiftRight_eq_div_pow]

theorem lowBit_eq_extract (v : Byte) : BitVec.ofNat 1 v.toNat = v.extractLsb' 0 1 := by
  apply BitVec.eq_of_toNat_eq
  simp [BitVec.extractLsb'_toNat]

/-- Settles O41: each setter is one `connect` of the channel, or one of each half of a FourOp channel. -/
theorem channelSetters : Obligations.ChannelSetters := by
  rintro s a v h _ ha hheld rfl
  refine ⟨fun hv ht => ⟨_, rfl, ?_⟩, fun hv ht => ⟨_, _, rfl, rfl, ?_⟩, fun hv ht => ⟨_, rfl, ?_⟩,
    fun hv ht => ⟨_, rfl, ?_⟩, fun hv ht => ⟨_, _, rfl, rfl, ?_⟩⟩
  · rw [exec_setOutput, withHandle_ok ha (setOutput_ok_iff.2 ⟨hheld, hv, rfl⟩), if_neg ht, connect_single,
      BitVec.ofNat_toNat]
  · rw [exec_setOutput, withHandle_ok ha (setOutput_ok_iff.2 ⟨hheld, hv, rfl⟩), if_pos ht, ← connect_two, connect_pair,
      BitVec.ofNat_toNat]
    rfl
  · rw [← singleOp_iff, Bool.not_eq_true] at ht
    rw [exec_setFeedback, withHandle_ok ha (setFeedback_ok_iff.2 ⟨hheld, ht, hv, rfl⟩), connect_single,
      BitVec.ofNat_toNat]
  · rw [exec_setAlgorithm, withHandle_ok ha ((setAlgorithm_two hheld ht).trans (if_pos hv)), connect_single,
      BitVec.ofNat_toNat]
  · rw [exec_setAlgorithm, withHandle_ok ha ((setAlgorithm_four hheld ht).trans (if_pos hv)), connect_pair,
      highBit_eq_extract, lowBit_eq_extract]
    rfl

end Sys2Proof.Setters
end

section
/-! ALLOC and the two switches of percussion mode: which handle is given out, and the next state (R122 to R128). -/

namespace Sys2Proof.AllocCommand

open Sys2Proof.Machine Sys2Proof.Allocation Sys2Proof.AllocatorInvariant

/-! ### ALLOC (R122) -/

theorem exec_alloc_ok {a : Byte} {t : ChType} {h : Handle} {s u : State} (ha : typeOfCode a = some t)
    (e : allocate cvs t s = .ok (h, u)) : exec (.alloc a) s = .next (u.answer .ok (BitVec.ofNat 8 h.val)) := by
  simp only [exec, execAlloc, ha, e]
  rfl

theorem exec_alloc_error {a : Byte} {t : ChType} {c : Code} {s : State} (ha : typeOfCode a = some t)
    (e : allocate cvs t s = .error c) : exec (.alloc a) s = .next (s.answer c 0xFF) := by
  simp only [exec, execAlloc, ha, e]
  rfl

theorem exec_alloc_badCode {a : Byte} (ha : typeOfCode a = none) (s : State) :
    exec (.alloc a) s = .next (s.answer .outOfRange 0xFF) := by
  simp only [exec, execAlloc, ha]
  rfl

/-- The byte of 1:04 is the mask with two zeros above it (R104). -/
theorem fourOpByte_eq_setWidth (mask : BitVec 6) : fourOpByte cvs mask = mask.setWidth 8 := by
  revert mask
  decide

/-! ### TwoOp (R123) -/

section TwoOp
variable {s : State}

theorem allocTwoOp_pool {c : PhysId} (hc : cvs.prio2.find? (fun c => s.free2[c]) = some c) :
    allocTwoOp cvs s = .ok (physHandle c, (s.setFree2 c false).setAllocd (physHandle c) true) := by
  simp only [allocTwoOp, hc]

theorem allocTwoOp_split {j : PairId} (hpool : cvs.prio2.find? (fun c => s.free2[c]) = none)
    (hj : cvs.conv2.find? (fun j => s.free4[cvs.pairs[j].1]) = some j) :
    allocTwoOp cvs s = .ok (physHandle cvs.pairs[j].1, splitPair s j) := by
  simp only [allocTwoOp, hpool, hj, w104_eq, sends_setAllocd, sends_setFree2]
  rfl

theorem allocTwoOp_exhausted (hpool : cvs.prio2.find? (fun c => s.free2[c]) = none)
    (hpair : cvs.conv2.find? (fun j => s.free4[cvs.pairs[j].1]) = none) :
    allocTwoOp cvs s = .error .resourceExhausted := by
  simp only [allocTwoOp, hpool, hpair]

end TwoOp

/-! ### FourOp (R124) -/

section FourOp
variable {s : State}

theorem allocFourOp_pool {c : PhysId} (hc : cvs.prio4.find? (fun c => s.free4[c]) = some c) :
    allocFourOp cvs s = .ok (physHandle c, (s.setFree4 c false).setAllocd (physHandle c) true) := by
  simp only [allocFourOp, hc]

theorem allocFourOp_merge {j : PairId} (hpool : cvs.prio4.find? (fun c => s.free4[c]) = none)
    (hj : cvs.conv4.find? (fun j => s.free2[cvs.pairs[j].1] && s.free2[cvs.pairs[j].2]) = some j) :
    allocFourOp cvs s = .ok (physHandle cvs.pairs[j].1, mergePair s j) := by
  simp only [allocFourOp, hpool, hj, w104_eq, sends_setAllocd]
  rfl

theorem allocFourOp_exhausted (hpool : cvs.prio4.find? (fun c => s.free4[c]) = none)
    (hpair : cvs.conv4.find? (fun j => s.free2[cvs.pairs[j].1] && s.free2[cvs.pairs[j].2]) = none) :
    allocFourOp cvs s = .error .resourceExhausted := by
  simp only [allocFourOp, hpool, hpair]

end FourOp

/-! ### The percussion roles, and the codes of no type (R90, R125) -/

theorem typeOfCode_role {a : Byte} {r : RoleId} (ha : a.toNat = 3 + r.val) : typeOfCode a = some (roleType r) := by
  simp only [typeOfCode, ha]
  fin_cases r <;> rfl

theorem typeOfCode_none {a : Byte} (ha : a = 0 ∨ 7 < a.toNat) : typeOfCode a = none := by
  have hcode : a.toNat = 0 ∨ 7 < a.toNat := ha.imp_left (congrArg BitVec.toNat)
  unfold typeOfCode
  split
  case h_8 => rfl
  all_goals omega

theorem allocate_role (r : RoleId) (s : State) : allocate cvs (roleType r) s = allocRole r s := by
  fin_cases r <;> rfl

theorem allocRole_off {r : RoleId} {s : State} (hp : s.percEnabled = false) :
    allocRole r s = .error .invalidTransition := by simp [allocRole, hp]

theorem allocRole_held {r : RoleId} {s : State} (hp : s.percEnabled = true) (hheld : s.allocd[roleHandle r] = true) :
    allocRole r s = .error .resourceExhausted := by simp [allocRole, hp, hheld]

/-! ### Percussion mode (R127, R128) -/

section Percussion
variable {s : State}

theorem percEnable_ok (hp : s.percEnabled = false)
    (hfree : s.free2[6] = true ∧ s.free2[7] = true ∧ s.free2[8] = true) :
    exec .percEnable s = .next ((State.sends { s with
      percEnabled := true, free2 := ((s.free2.set 6 false).set 7 false).set 8 false }
      [((0, 0xBD), percussionByte cvs true s.percKey)]).answer .ok 1) := by
  obtain ⟨h6, h7, h8⟩ := hfree
  simp only [exec, execPercEnable, hp, h6, h7, h8, wBD_eq]
  rfl

theorem percEnable_refused
    (h : s.percEnabled = true ∨ ¬(s.free2[6] = true ∧ s.free2[7] = true ∧ s.free2[8] = true)) :
    exec .percEnable s = .next (s.answer .invalidTransition 0) := by
  have hcond : (s.percEnabled || !(s.free2[6] && s.free2[7] && s.free2[8])) = true := by
    simpa only [Bool.or_eq_true, Bool.not_eq_true', ← Bool.not_eq_true, Bool.and_eq_true, and_assoc] using h
  simp only [exec, execPercEnable, hcond, if_true]
  rfl

theorem any_percKey : s.percKey.toList.any id = true ↔ ∃ r : RoleId, s.percKey[r] = true := by
  simp [Vector.any_eq_true, Fin.exists_iff]

/-- With the mode off and no role's key on, 0:BD is 0 (R104). -/
theorem percussionByte_off {key : Vector Bool 5} (hkey : ∀ r : RoleId, key[r] = false) : percussionByte cvs false key = 0x00 := by
  obtain rfl : key = Vector.replicate 5 false := by
    ext i hi
    simpa using hkey ⟨i, hi⟩
  decide

theorem percDisable_ok (hp : s.percEnabled = true) (hkey : ∀ r : RoleId, s.percKey[r] = false) :
    exec .percDisable s = .next ((State.sends { s with
      percEnabled := false, free2 := ((s.free2.set 6 true).set 7 true).set 8 true } [((0, 0xBD), 0x00)]).answer .ok 1) := by
  have hnone : s.percKey.toList.any id = false := by
    rw [← Bool.not_eq_true, any_percKey]
    simpa using hkey
  rw [← percussionByte_off hkey]
  simp only [exec, execPercDisable, hp, hnone, wBD_eq]
  rfl

theorem percDisable_refused (h : s.percEnabled = false ∨ ∃ r : RoleId, s.percKey[r] = true) :
    exec .percDisable s = .next (s.answer .invalidTransition 0) := by
  rw [← any_percKey] at h
  have hcond : (!s.percEnabled || s.percKey.toList.any id) = true := by
    simpa only [Bool.or_eq_true, Bool.not_eq_true'] using h
  simp only [exec, execPercDisable, hcond, if_true]
  rfl

end Percussion

/-- Settles O34: each switch where its test passes, and where it does not. -/
theorem percussionSwitch : Obligations.PercussionSwitch :=
  ⟨fun _ => percEnable_ok, fun _ => percEnable_refused, fun _ => percDisable_ok, fun _ => percDisable_refused⟩

end Sys2Proof.AllocCommand
end

section
/-! What ALLOC does, type by type (R122 to R125). -/

namespace Sys2Proof.AllocOutcomes

open Sys2Proof.Machine Sys2Proof.Allocation Sys2Proof.AllocatorInvariant Sys2Proof.AllocCommand

/-- Settles O30: the pool, the split and the refusal, by the two searches of `allocTwoOp`. -/
theorem allocTwoOp : Obligations.AllocTwoOp := by
  rintro s pool hpool
  refine ⟨?_, ?_⟩
  · rintro c rfl
    exact exec_alloc_ok (t := .twoOp) rfl (allocTwoOp_pool hpool.symm)
  · rintro rfl split hsplit
    refine ⟨?_, ?_⟩
    · rintro j p q rfl hpair
      obtain rfl : cvs.pairs[j].1 = p := congrArg Prod.fst hpair
      obtain rfl : cvs.pairs[j].2 = q := congrArg Prod.snd hpair
      refine ⟨maskClear s.fourOpMask j, fun l => ?_, ?_⟩
      · rw [getLsbD_maskClear]
        rfl
      · rw [exec_alloc_ok (t := .twoOp) rfl (allocTwoOp_split hpool.symm hsplit.symm), splitPair, fourOpByte_eq_setWidth]
        rfl
    · rintro rfl
      exact exec_alloc_error (t := .twoOp) rfl (allocTwoOp_exhausted hpool.symm hsplit.symm)

/-- Settles O31: the pool, the merge and the refusal, by the two searches of `allocFourOp`. -/
theorem allocFourOp : Obligations.AllocFourOp := by
  rintro s pool hpool
  refine ⟨?_, ?_⟩
  · rintro c rfl
    exact exec_alloc_ok (t := .fourOp) rfl (allocFourOp_pool hpool.symm)
  · rintro rfl pair hpair
    refine ⟨?_, ?_⟩
    · rintro j p q rfl hpq
      obtain rfl : cvs.pairs[j].1 = p := congrArg Prod.fst hpq
      obtain rfl : cvs.pairs[j].2 = q := congrArg Prod.snd hpq
      refine ⟨maskSet s.fourOpMask j, fun l => ?_, ?_⟩
      · rw [getLsbD_maskSet]
        rfl
      · rw [exec_alloc_ok (t := .fourOp) rfl (allocFourOp_merge hpool.symm hpair.symm), mergePair, fourOpByte_eq_setWidth]
        rfl
    · rintro rfl
      exact exec_alloc_error (t := .fourOp) rfl (allocFourOp_exhausted hpool.symm hpair.symm)

/-- Settles O32: the three outcomes of `allocRole`, and the codes of no type. -/
theorem allocRole : Obligations.AllocRole := by
  refine ⟨fun s a r ha => ⟨fun hp hfree => ?_, fun hp => ?_, fun hp hheld => ?_⟩,
    fun s a ha => exec_alloc_badCode (typeOfCode_none ha) s⟩
  · exact exec_alloc_ok (typeOfCode_role ha) ((allocate_role r s).trans (allocRole_ok_iff.2 ⟨hp, hfree, rfl, rfl⟩))
  · exact exec_alloc_error (typeOfCode_role ha) ((allocate_role r s).trans (allocRole_off hp))
  · exact exec_alloc_error (typeOfCode_role ha) ((allocate_role r s).trans (allocRole_held hp hheld))

end Sys2Proof.AllocOutcomes
end

section
/-! NOP and the two queries: what they answer, from the channel type and the connection bits (R93, R148, R149, R260). -/

namespace Sys2Proof.Queries

open Sys2Proof.Machine Sys2Proof.HandleCommands

/-! ### The number of operators (R93) -/

/-- The operator count of a channel type (R93). -/
def typeOps : ChType → Nat
  | .null => 0
  | .twoOp | .kick => 2
  | .fourOp => 4
  | .snare | .tomTom | .cymbal | .hiHat => 1

theorem length_roleOps (r : RoleId) : (cvs.roleOps[r]).length = typeOps (roleType r) := by
  revert r
  decide

theorem opCount_eq (s : State) (h : Handle) : opCount cvs s h = typeOps (ctypeOf s h) := by
  rcases handle_cases h with ⟨c, rfl⟩ | ⟨r, rfl⟩
  · rw [opCount, opsOf_phys, ctypeOf_phys]
    cases s.ctype[c] <;> rfl
  · rw [opCount, opsOf_role, ctypeOf_role, length_roleOps]

/-! ### The type of an operator (R148) -/

section OpType
variable {s : State} {h : Handle} {i : Nat}

theorem opType_outOfRange (hi : typeOps (ctypeOf s h) ≤ i) : opType cvs s h i = .null := by
  rw [opType, opCount_eq, if_pos hi]

theorem opType_inRange (hi : i < typeOps (ctypeOf s h)) :
    opType cvs s h i = if i ∈ carriers cvs s h then .carrier else .modulator := by
  rw [opType, opCount_eq, if_neg (not_le.2 hi)]

theorem carriers_two (ht : ctypeOf s h = .twoOp ∨ ctypeOf s h = .kick) :
    carriers cvs s h = if s.chan[physChan cvs h].cnt = 1 then [0, 1] else [1] := by
  have htable : ∀ x : BitVec 1, cvs.carriers2[x.toFin] = if x = 1 then [0, 1] else [1] := by decide
  rcases ht with ht | ht <;> simp only [carriers, ht, htable]

theorem carriers_single (ht : (ctypeOf s h).singleOp = true) : carriers cvs s h = [0] := by
  cases hc : ctypeOf s h with
  | null | twoOp | fourOp | kick => simp [hc, ChType.singleOp] at ht
  | snare | tomTom | cymbal | hiHat => simp only [carriers, hc]

/-- The carriers of a FourOp channel by its two connection bits. -/
theorem mem_carriers_four (ht : ctypeOf s h = .fourOp) (i : Fin 4) :
    i.val ∈ carriers cvs s h ↔ i = 3 ∨ (i = 0 ∧ s.chan[physChan cvs h].cnt = 1)
      ∨ (i = 1 ∧ s.chan[physChan cvs h].cnt = 0 ∧ s.chan[secondary (physChan cvs h)].cnt = 1)
      ∨ (i = 2 ∧ s.chan[physChan cvs h].cnt = 1 ∧ s.chan[secondary (physChan cvs h)].cnt = 1) := by
  have htable : ∀ (x y : BitVec 1) (i : Fin 4), i.val ∈ cvs.carriers4[(x ++ y : BitVec 2).toFin] ↔
      i = 3 ∨ (i = 0 ∧ x = 1) ∨ (i = 1 ∧ x = 0 ∧ y = 1) ∨ (i = 2 ∧ x = 1 ∧ y = 1) := by decide
  simp only [carriers, ht, htable]

end OpType

/-! ### The answers -/

section Answers
variable {s : State} {h : Handle} {a : Byte}

theorem exec_getOpCount (ha : a.toNat = h.val) :
    exec (.getOpCount a) s = .next (s.answer .ok (BitVec.ofNat 8 (opCount cvs s h))) := by
  simp only [exec, execGetOpCount, handleOf_of_eq ha]
  rfl

theorem exec_getOpType (ha : a.toNat = h.val) (b : Byte) :
    exec (.getOpType a b) s = .next (s.answer .ok (opType cvs s h b.toNat).byte) := by
  simp only [exec, execGetOpType, handleOf_of_eq ha]
  rfl

theorem exec_getOpCount_invalid (ha : 22 < a.toNat) : exec (.getOpCount a) s = .next (s.answer .invalidHandle 0) := by
  simp only [exec, execGetOpCount, handleOf_eq_none.2 ha]
  rfl

theorem exec_getOpType_invalid (ha : 22 < a.toNat) (b : Byte) :
    exec (.getOpType a b) s = .next (s.answer .invalidHandle 0) := by
  simp only [exec, execGetOpType, handleOf_eq_none.2 ha]
  rfl

end Answers

/-! ### The operator type as the command's value (R91, R148) -/

section Value
variable {s : State} {h : Handle} (b : Byte)

theorem opTypeByte_null (ht : ctypeOf s h = .null) : (opType cvs s h b.toNat).byte = 0 := by
  rw [opType_outOfRange (by rw [ht]; exact Nat.zero_le _)]
  rfl

theorem opTypeByte_two (ht : ctypeOf s h = .twoOp ∨ ctypeOf s h = .kick) :
    (opType cvs s h b.toNat).byte =
      if b = 1 then 1 else if b = 0 then (if s.chan[physChan cvs h].cnt = 1 then 1 else 2) else 0 := by
  have hops : typeOps (ctypeOf s h) = 2 := by rcases ht with ht | ht <;> rw [ht] <;> rfl
  obtain rfl | rfl | hb : b = 0 ∨ b = 1 ∨ 2 ≤ b.toNat := by bv_omega
  · rw [opType_inRange (hops ▸ by decide), carriers_two ht]
    split_ifs <;> simp_all [OpType.byte]
  · rw [opType_inRange (hops ▸ by decide), carriers_two ht]
    split_ifs <;> simp_all [OpType.byte]
  · have h1 : b ≠ 1 := by bv_omega
    have h0 : b ≠ 0 := by bv_omega
    rw [opType_outOfRange (hops ▸ hb), if_neg h1, if_neg h0]
    rfl

theorem opTypeByte_four (ht : ctypeOf s h = .fourOp) :
    (opType cvs s h b.toNat).byte =
      if 4 ≤ b.toNat then 0
      else if b = 3 ∨ (b = 0 ∧ s.chan[physChan cvs h].cnt = 1)
          ∨ (b = 1 ∧ s.chan[physChan cvs h].cnt = 0 ∧ s.chan[secondary (physChan cvs h)].cnt = 1)
          ∨ (b = 2 ∧ s.chan[physChan cvs h].cnt = 1 ∧ s.chan[secondary (physChan cvs h)].cnt = 1) then 1 else 2 := by
  have hops : typeOps (ctypeOf s h) = 4 := by rw [ht]; rfl
  by_cases hb : 4 ≤ b.toNat
  · rw [opType_outOfRange (hops ▸ hb), if_pos hb]
    rfl
  · have hlt : b.toNat < 4 := not_le.1 hb
    have hmem := mem_carriers_four ht ⟨b.toNat, hlt⟩
    simp only [Fin.ext_iff] at hmem
    simp only [← BitVec.toNat_inj (x := b)]
    rw [opType_inRange (hops ▸ hlt), if_neg hb]
    by_cases hc : b.toNat ∈ carriers cvs s h
    · rw [if_pos hc]
      exact (if_pos (hmem.1 hc)).symm
    · rw [if_neg hc]
      exact (if_neg (hmem.not.1 hc)).symm

theorem opTypeByte_single (ht : (ctypeOf s h).singleOp = true) :
    (opType cvs s h b.toNat).byte = if b = 0 then 1 else 0 := by
  have hops : typeOps (ctypeOf s h) = 1 := by
    cases hc : ctypeOf s h <;> simp_all [ChType.singleOp, typeOps]
  by_cases hb : b = 0
  · subst hb
    rw [opType_inRange (hops ▸ by decide), carriers_single ht]
    rfl
  · rw [opType_outOfRange (hops ▸ by bv_omega), if_neg hb]
    rfl

end Value

/-- Settles O28: the answers by the channel type, and the numbers above 22. -/
theorem queriesAnswer : Obligations.QueriesAnswer := by
  refine ⟨fun s => rfl, fun s a b h ha => ⟨?_, ?_⟩, fun s a b ha => ⟨exec_getOpCount_invalid ha, exec_getOpType_invalid ha b⟩⟩
  · rw [exec_getOpCount ha, opCount_eq]
    cases ctypeOf s h <;> rfl
  · rw [exec_getOpType ha]
    cases ht : ctypeOf s h with
    | null => rw [opTypeByte_null b ht]
    | twoOp => rw [opTypeByte_two b (.inl ht)]
    | kick => rw [opTypeByte_two b (.inr ht)]
    | fourOp =>
      rw [opTypeByte_four b ht]
      rfl
    | snare | tomTom | cymbal | hiHat => rw [opTypeByte_single b (by rw [ht]; rfl)]

end Sys2Proof.Queries
end

section
/-! Visits to the voices (R170): what is left of each slot, and the voices in the order of their visits. -/

namespace Sys2Proof.Visits

open Sys2Proof.Machine Sys2Proof.AllocatorInvariant

/-! ### One visit -/

/-- What a command does when it comes to slot `k`: nothing, or the visit of the voice in it (R170). -/
def visitStep (sel : Slot → Bool) (body : SlotId → Handle → State → State × Nat) (acc : State × Nat) (k : SlotId) :
    State × Nat :=
  match acc.1.slot[k].lchan with
  | none => acc
  | some h => if sel acc.1.slot[k] then ((body k h acc.1).1, acc.2 + (body k h acc.1).2) else acc

/-- A visit changes no slot but its own. -/
def OwnSlot (body : SlotId → Handle → State → State × Nat) : Prop :=
  ∀ k h t, ∃ x, (body k h t).1.slot = t.slot.set k x

/-- The voice in slot `k`, when `sel` selects it. -/
def boundAt (s : State) (sel : Slot → Bool) (k : SlotId) : Option (SlotId × Handle) :=
  match s.slot[k].lchan with
  | none => none
  | some h => if sel s.slot[k] then some (k, h) else none

/-- The bound voices that `sel` selects, in slot order, each with its handle (R170). -/
def boundVoices (s : State) (sel : Slot → Bool) : List (SlotId × Handle) := allSlots.filterMap (boundAt s sel)

section Bound
variable {s : State} {sel : Slot → Bool} {k : SlotId} {h : Handle}

theorem boundAt_free (hk : s.slot[k].lchan = none) : boundAt s sel k = none := by
  simp only [boundAt, hk]

theorem boundAt_skip (hk : sel s.slot[k] = false) : boundAt s sel k = none := by
  simp only [boundAt, hk]
  split <;> rfl

theorem boundAt_voice (hk : s.slot[k].lchan = some h) (hsel : sel s.slot[k] = true) : boundAt s sel k = some (k, h) := by
  simp only [boundAt, hk, hsel, if_true]

end Bound

theorem allSlots_nodup : allSlots.Nodup := by decide

theorem mem_allSlots (k : SlotId) : k ∈ allSlots := by
  revert k
  decide

section Body
variable {sel : Slot → Bool} {body : SlotId → Handle → State → State × Nat}

theorem visitVoices_eq (s : State) : visitVoices sel body s = allSlots.foldl (visitStep sel body) (s, 0) := rfl

theorem visitStep_free {acc : State × Nat} {k : SlotId} (hk : acc.1.slot[k].lchan = none) :
    visitStep sel body acc k = acc := by
  simp only [visitStep, hk]

theorem visitStep_skip {acc : State × Nat} {k : SlotId} (hk : sel acc.1.slot[k] = false) :
    visitStep sel body acc k = acc := by
  simp only [visitStep, hk]
  split <;> rfl

theorem visitStep_visit {acc : State × Nat} {k : SlotId} {h : Handle} (hk : acc.1.slot[k].lchan = some h)
    (hsel : sel acc.1.slot[k] = true) :
    visitStep sel body acc k = ((body k h acc.1).1, acc.2 + (body k h acc.1).2) := by
  simp only [visitStep, hk, hsel, if_true]

/-- The slot is passed over, or its voice is visited. -/
theorem visitStep_cases (acc : State × Nat) (k : SlotId) :
    ((acc.1.slot[k].lchan = none ∨ sel acc.1.slot[k] = false) ∧ visitStep sel body acc k = acc)
    ∨ ∃ h, acc.1.slot[k].lchan = some h ∧ sel acc.1.slot[k] = true
      ∧ visitStep sel body acc k = ((body k h acc.1).1, acc.2 + (body k h acc.1).2) := by
  cases hk : acc.1.slot[k].lchan with
  | none => exact .inl ⟨.inl rfl, visitStep_free hk⟩
  | some h =>
    cases hsel : sel acc.1.slot[k] with
    | false => exact .inl ⟨.inr rfl, visitStep_skip hsel⟩
    | true => exact .inr ⟨h, rfl, rfl, visitStep_visit hk hsel⟩

/-! ### The slots after the visits -/

variable (hown : OwnSlot body)
include hown

theorem slot_visitStep {k l : SlotId} (hne : l ≠ k) (acc : State × Nat) :
    (visitStep sel body acc k).1.slot[l] = acc.1.slot[l] := by
  obtain ⟨-, e⟩ | ⟨h, -, -, e⟩ := visitStep_cases (sel := sel) (body := body) acc k
  · rw [e]
  · obtain ⟨x, hx⟩ := hown k h acc.1
    rw [e, hx, get_set, if_neg hne]

theorem slot_foldl_visitStep {k : SlotId} (l : List SlotId) (hk : k ∉ l) (acc : State × Nat) :
    (l.foldl (visitStep sel body) acc).1.slot[k] = acc.1.slot[k] := by
  induction l generalizing acc with
  | nil => rfl
  | cons j l ih =>
    rw [List.mem_cons, not_or] at hk
    rw [List.foldl_cons, ih hk.2, slot_visitStep hown hk.1]

/-- What each visit keeps, the visits keep; each finds its slot as the command did. -/
theorem foldl_visitStep_keeps {P : State → Prop} {s : State} (l : List SlotId) (hl : l.Nodup)
    (hP : ∀ j ∈ l, ∀ h t, s.slot[j].lchan = some h → P t → P (body j h t).1) {acc : State × Nat}
    (hacc : ∀ j ∈ l, acc.1.slot[j] = s.slot[j]) (hs : P acc.1) : P (l.foldl (visitStep sel body) acc).1 := by
  induction l generalizing acc with
  | nil => exact hs
  | cons j l ih =>
    rw [List.nodup_cons] at hl
    rw [List.foldl_cons]
    refine ih hl.2 (fun i hi => hP i (List.mem_cons_of_mem _ hi)) (fun i hi => ?_) ?_
    · have hij : i ≠ j := fun e => hl.1 (e ▸ hi)
      rw [slot_visitStep hown hij, hacc i (List.mem_cons_of_mem _ hi)]
    · obtain ⟨-, e⟩ | ⟨h, hk, -, e⟩ := visitStep_cases (sel := sel) (body := body) acc j
      · rw [e]
        exact hs
      · rw [e]
        rw [hacc j (List.mem_cons_self ..)] at hk
        exact hP j (List.mem_cons_self ..) h _ hk hs

/-- Each slot is passed over, or its voice is visited once, in a state `u` that has the slot as the command found it and
all that the visits of the other voices keep. -/
theorem visit_slot {P : State → Prop} {s : State} (k : SlotId) (hs : P s)
    (hP : ∀ j h t, j ≠ k → s.slot[j].lchan = some h → P t → P (body j h t).1) :
    ((s.slot[k].lchan = none ∨ sel s.slot[k] = false) ∧ (visitVoices sel body s).1.slot[k] = s.slot[k])
    ∨ ∃ h u, s.slot[k].lchan = some h ∧ sel s.slot[k] = true ∧ P u ∧ u.slot[k] = s.slot[k]
      ∧ (visitVoices sel body s).1.slot[k] = (body k h u).1.slot[k] := by
  obtain ⟨before, after, hsplit⟩ := List.append_of_mem (mem_allSlots k)
  have hnodup := hsplit ▸ allSlots_nodup
  rw [List.nodup_middle, List.nodup_cons, List.mem_append, not_or] at hnodup
  obtain ⟨⟨hbefore, hafter⟩, hrest⟩ := hnodup
  have hfound : ((before.foldl (visitStep sel body) (s, 0)).1).slot[k] = s.slot[k] :=
    slot_foldl_visitStep hown before hbefore (s, 0)
  have hkept : P (before.foldl (visitStep sel body) (s, 0)).1 :=
    foldl_visitStep_keeps (s := s) hown before (List.Nodup.of_append_left hrest)
      (fun j hj h t => hP j h t fun e => hbefore (e ▸ hj)) (fun _ _ => rfl) hs
  rw [visitVoices_eq, hsplit, List.foldl_append, List.foldl_cons, slot_foldl_visitStep hown after hafter]
  generalize before.foldl (visitStep sel body) (s, 0) = acc at hfound hkept ⊢
  obtain ⟨hpass, e⟩ | ⟨h, hk, hsel, e⟩ := visitStep_cases (sel := sel) (body := body) acc k
  · exact .inl ⟨hfound ▸ hpass, by rw [e, hfound]⟩
  · exact .inr ⟨h, acc.1, hfound ▸ hk, hfound ▸ hsel, hkept, hfound, by rw [e]⟩

/-! ### The voices visited -/

/-- The visits are made to the voices that the command found, in their order (R170). -/
theorem visitVoices_eq_boundVoices (s : State) :
    visitVoices sel body s = (boundVoices s sel).foldl
      (fun acc kh => ((body kh.1 kh.2 acc.1).1, acc.2 + (body kh.1 kh.2 acc.1).2)) (s, 0) := by
  have hfold : ∀ (l : List SlotId) (acc : State × Nat), l.Nodup → (∀ j ∈ l, acc.1.slot[j] = s.slot[j]) →
      l.foldl (visitStep sel body) acc =
        (l.filterMap (boundAt s sel)).foldl (fun acc kh => ((body kh.1 kh.2 acc.1).1, acc.2 + (body kh.1 kh.2 acc.1).2)) acc := by
    intro l
    induction l with
    | nil => intro acc _ _; rfl
    | cons k l ih =>
      intro acc hl hacc
      rw [List.nodup_cons] at hl
      have hk : acc.1.slot[k] = s.slot[k] := hacc k (List.mem_cons_self ..)
      have hrest := ih (visitStep sel body acc k) hl.2 fun j hj => by
        have hjk : j ≠ k := fun e => hl.1 (e ▸ hj)
        rw [slot_visitStep hown hjk, hacc j (List.mem_cons_of_mem _ hj)]
      rw [List.foldl_cons, List.filterMap_cons, hrest]
      obtain ⟨hpass | hpass, e⟩ | ⟨h, hbound, hsel, e⟩ := visitStep_cases (sel := sel) (body := body) acc k
      · rw [e, boundAt_free (hk ▸ hpass)]
      · rw [e, boundAt_skip (hk ▸ hpass)]
      · rw [e, boundAt_voice (hk ▸ hbound) (hk ▸ hsel), List.foldl_cons]
  exact hfold allSlots (s, 0) allSlots_nodup fun _ _ => rfl

end Body

/-- The voices of a MIDI channel are those that the visit's test selects. -/
theorem boundVoices_eq_voicesOf {s : State} {m : MidiId} {sel visited : Slot → Bool}
    (hsel : ∀ x, visited x = true ↔ x.midiCh = m ∧ sel x = true) : boundVoices s visited = voicesOf s m sel := by
  rw [boundVoices, PitchBend.voicesOf_eq]
  congr 1
  funext k
  cases hk : s.slot[k].lchan <;> simp only [boundAt, PitchBend.voiceAt, hk, hsel]

/-- Visits of the voices of a MIDI channel that all count alike: the state after each in turn, and the number counted. -/
theorem visit_voicesOf {m : MidiId} {sel visited : Slot → Bool} {f : SlotId → Handle → State → State} {n : Nat}
    (hsel : ∀ x, visited x = true ↔ x.midiCh = m ∧ sel x = true) (hown : OwnSlot (fun k h t => (f k h t, n))) (s : State) :
    visitVoices visited (fun k h t => (f k h t, n)) s =
      ((voicesOf s m sel).foldl (fun u kh => f kh.1 kh.2 u) s, n * (voicesOf s m sel).length) := by
  have hfold : ∀ (l : List (SlotId × Handle)) (u : State) (j : Nat),
      l.foldl (fun acc kh => (f kh.1 kh.2 acc.1, acc.2 + n)) (u, j) =
        (l.foldl (fun u kh => f kh.1 kh.2 u) u, j + n * l.length) := by
    intro l
    induction l with
    | nil => intro u j; rfl
    | cons kh l ih =>
      intro u j
      rw [List.foldl_cons, ih, List.foldl_cons, List.length_cons, Nat.mul_succ, Nat.add_assoc, Nat.add_comm n]
  rw [visitVoices_eq_boundVoices hown, boundVoices_eq_voicesOf hsel, hfold, Nat.zero_add]

theorem ofChannel_iff (m : MidiId) (x : Slot) : ofChannel m x = true ↔ x.midiCh = m ∧ (fun _ => true) x = true := by
  simp [ofChannel]

end Sys2Proof.Visits
end

section
/-! One cached change and its register writes for each of a list of operators, in order (R170, R174, R176, R203, R243). -/

namespace Sys2Proof.OperatorRuns

open Sys2Proof.Machine Sys2Proof.AllocatorInvariant

variable {α : Type} (put : α → Oper → Oper) (writes : OperId → Oper → List RegVal)

/-- Each operator of a list takes a new cache entry, which is then written to its registers. -/
def operRun (s : State) (ts : List (OperId × α)) : State :=
  State.sends
    { s with oper := ts.foldl (fun (o : Vector Oper 36) (t : OperId × α) => o.set t.1 (put t.2 o[t.1])) s.oper }
    (ts.flatMap (fun t => writes t.1 (put t.2 s.oper[t.1])))

/-- What the operators' new entries are computed from, in a state that differs in the operators and on the bus alone. -/
structure SameVoices (s u : State) : Prop where
  ctype : u.ctype = s.ctype
  allocd : u.allocd = s.allocd
  chan : u.chan = s.chan
  patch : u.patch = s.patch
  slot : u.slot = s.slot

theorem SameVoices.refl (s : State) : SameVoices s s := ⟨rfl, rfl, rfl, rfl, rfl⟩

theorem sameVoices_operRun {s u : State} (h : SameVoices s u) (ts : List (OperId × α)) :
    SameVoices s (operRun put writes u ts) := ⟨h.ctype, h.allocd, h.chan, h.patch, h.slot⟩

theorem operRun_nil (s : State) : operRun put writes s [] = s := sends_nil _

theorem operRun_single (s : State) (n : OperId) (a : α) :
    operRun put writes s [(n, a)] = (s.updOper n (put a)).sends (writes n (put a s.oper[n])) := by
  simp only [operRun, List.foldl_cons, List.foldl_nil, List.flatMap_cons, List.flatMap_nil, List.append_nil]
  rfl

variable {put writes}

/-- The registers written for a new entry do not depend on the entry that an earlier one of the list left. -/
theorem operRun_cons (hwrites : ∀ a b n o, writes n (put b (put a o)) = writes n (put b o)) (s : State)
    (t : OperId × α) (ts : List (OperId × α)) :
    operRun put writes s (t :: ts) = operRun put writes (operRun put writes s [t]) ts := by
  have hread (q : OperId × α) :
      writes q.1 (put q.2 (s.oper.set t.1 (put t.2 s.oper[t.1]))[q.1]) = writes q.1 (put q.2 s.oper[q.1]) := by
    rw [get_set]
    split
    · next e => simp only [hwrites, e]
    · rfl
  simp only [operRun, sends_oper, List.foldl_cons, List.foldl_nil, hread]
  simp only [State.sends, List.flatMap_cons, List.flatMap_nil, List.append_nil, List.foldl_append, List.flatMap_append,
    List.append_assoc]

/-- A body that does this for each of a list of indices, but for those without a target. -/
theorem foldl_eq_operRun {ι : Type} (hwrites : ∀ a b n o, writes n (put b (put a o)) = writes n (put b o)) {s : State}
    {body : State → ι → State} {target : ι → Option (OperId × α)}
    (hbody : ∀ i u, SameVoices s u → body u i = operRun put writes u (target i).toList) (l : List ι) :
    l.foldl body s = operRun put writes s (l.filterMap target) := by
  have hfold : ∀ u, SameVoices s u → l.foldl body u = operRun put writes u (l.filterMap target) := by
    induction l with
    | nil => intro u _; exact (operRun_nil ..).symm
    | cons i l ih =>
      intro u hu
      rw [List.foldl_cons, hbody i u hu, List.filterMap_cons, ih _ (sameVoices_operRun _ _ hu _)]
      cases target i with
      | none => rw [Option.toList_none, operRun_nil]
      | some t => exact (operRun_cons hwrites u t _).symm
  exact hfold s (SameVoices.refl s)

/-- A field that the new entries leave alone. -/
theorem oper_operRun_field {β : Type} {g : Oper → β} (hg : ∀ a o, g (put a o) = g o) (s : State)
    (ts : List (OperId × α)) (n : OperId) : g (operRun put writes s ts).oper[n] = g s.oper[n] := by
  have hfold : ∀ v : Vector Oper 36,
      g (ts.foldl (fun (o : Vector Oper 36) (t : OperId × α) => o.set t.1 (put t.2 o[t.1])) v)[n] = g v[n] := by
    induction ts with
    | nil => intro v; rfl
    | cons t ts ih =>
      intro v
      rw [List.foldl_cons, ih, get_set]
      split
      · next e => simp only [hg, e]
      · rfl
  exact hfold s.oper

end Sys2Proof.OperatorRuns
end

section
/-! One voice's part of SERVICE: its counters, its LFO start, and its release timer (R241 to R247). -/

namespace Sys2Proof.ServiceVoice

open Sys2Proof.Machine Sys2Proof.CommandMoves Sys2Proof.AllocatorInvariant Sys2Proof.OperatorRuns

/-! ### One slot changed more than once -/

theorem updSlot_updSlot (s : State) (k : SlotId) (f g : Slot → Slot) :
    (s.updSlot k f).updSlot k g = s.updSlot k (fun x => g (f x)) := by
  simp [State.updSlot]

theorem updSlot_congr {s : State} {k : SlotId} {f g : Slot → Slot} (h : f s.slot[k] = g s.slot[k]) :
    s.updSlot k f = s.updSlot k g := by
  simp only [State.updSlot, h]

theorem operRun_updSlot {α : Type} (put : α → Oper → Oper) (writes : OperId → Oper → List RegVal) (s : State)
    (ts : List (OperId × α)) (k : SlotId) (f : Slot → Slot) :
    (operRun put writes s ts).updSlot k f = operRun put writes (s.updSlot k f) ts := rfl

/-! ### The LFO start (R243) -/

/-- The two modulation flags of an operator, from its template. -/
def putModulation (q : BitVec 1 × BitVec 1) (o : Oper) : Oper := o.modulated q.1 q.2

/-- The operator of index `i` with the flags that its template requests, if it requests one (R243). -/
def lfoTarget (s : State) (P : Patch) (h : Handle) (i : Fin 4) : Option (OperId × BitVec 1 × BitVec 1) :=
  if P.op[i].trem = 1 ∨ P.op[i].vib = 1 then ((opsOf cvs s h)[i.val]?).map (fun n => (n, P.op[i].trem, P.op[i].vib)) else none

theorem lfoTargets_eq (s : State) (P : Patch) (h : Handle) :
    lfoTargets s P h = (opIndices cvs s h).filterMap (lfoTarget s P h) := rfl

theorem lfoTargets_congr {s t : State} (ht : t.ctype = s.ctype) (P : Patch) (h : Handle) :
    lfoTargets t P h = lfoTargets s P h := by
  simp only [lfoTargets, opIndices_congr ht, opsOf_congr ht]

theorem advanceDuration_eq (v : BitVec 16) (k : SlotId) (s : State) :
    advanceDuration cvs v k s = s.updSlot k (fun x => { x with duration := counted x.duration v }) := rfl

/-- The one write of an operator's flags (R243). -/
def flagWrites (n : OperId) (o : Oper) : List RegVal := [(opReg n 0x20, o.flagsByte cvs)]

theorem applyLfo_eq (k : SlotId) (h : Handle) (i : Fin 4) (s : State) :
    applyLfo cvs k h i s =
      operRun putModulation flagWrites s (lfoTarget s s.patch[s.slot[k].midiCh] h i).toList := by
  simp only [applyLfo, lfoTarget]
  split
  · cases (opsOf cvs s h)[i.val]? with
    | none => exact (operRun_nil ..).symm
    | some n =>
      simp only [Option.map_some, Option.toList_some, operRun_single, w20_eq]
      simp [State.updOper, flagWrites, putModulation, Oper.modulated]
  · exact (operRun_nil ..).symm

theorem forOpIndices_applyLfo (k : SlotId) (h : Handle) (s : State) :
    forOpIndices cvs h (fun i t => applyLfo cvs k h i t) s =
      operRun putModulation flagWrites s (lfoTargets s s.patch[s.slot[k].midiCh] h) := by
  rw [lfoTargets_eq]
  refine foldl_eq_operRun (put := putModulation) (writes := flagWrites) (fun _ _ _ _ => rfl) (fun i u hu => ?_) _
  simp only [applyLfo_eq, hu.patch, hu.slot, lfoTarget, opsOf_congr hu.ctype]

/-- A slot after the first two steps of SERVICE (R242, R243). -/
def advancedSlot (x : Slot) (P : Patch) (v : BitVec 16) : Slot :=
  { x with
    duration := counted x.duration v
    lfoTriggered := x.lfoTriggered || decide (P.lfoDelay.toNat * 32 < (counted x.duration v).toNat) }

theorem startLfo_advance (v : BitVec 16) (k : SlotId) (h : Handle) (s : State) :
    startLfo cvs k h (advanceDuration cvs v k s) =
      operRun putModulation flagWrites
        (s.updSlot k (fun x => advancedSlot x s.patch[x.midiCh] v)) (lfoDue s v k h) := by
  have hmult : cvs.lfoMultMs = 32 := rfl
  have hslot : (s.slot.set k { s.slot[k] with duration := counted s.slot[k].duration v })[k] =
      { s.slot[k] with duration := counted s.slot[k].duration v } := by simp
  simp only [startLfo, advanceDuration_eq, updSlot_slot, updSlot_patch, hslot, hmult, forOpIndices_applyLfo, lfoDue,
    lfoTargets_congr (updSlot_ctype ..)]
  by_cases hdue : s.slot[k].lfoTriggered = false
      ∧ s.patch[s.slot[k].midiCh].lfoDelay.toNat * 32 < (counted s.slot[k].duration v).toNat
  · rw [if_pos hdue, if_pos (by simpa using hdue), operRun_updSlot, updSlot_updSlot]
    congr 1
    refine updSlot_congr ?_
    simp only [advancedSlot, hdue.2, decide_true, Bool.or_true]
  · rw [if_neg hdue, if_neg (by simpa using hdue), operRun_nil]
    refine updSlot_congr ?_
    have hflag : s.slot[k].lfoTriggered = (s.slot[k].lfoTriggered
        || decide (s.patch[s.slot[k].midiCh].lfoDelay.toNat * 32 < (counted s.slot[k].duration v).toNat)) := by
      cases hb : s.slot[k].lfoTriggered with
      | true => rfl
      | false => simpa using fun hlt => hdue ⟨hb, hlt⟩
    simp only [advancedSlot, ← hflag]

/-! ### The counters (R242, R244) -/

theorem timed_eq (s : State) (v : BitVec 16) (k : SlotId) (h : Handle) :
    s.timed v k h =
      operRun putModulation flagWrites (s.updSlot k (fun x => x.serviced s.patch[x.midiCh] v)) (lfoDue s v k h) := by
  simp only [State.timed, operRun, List.map_eq_flatMap]
  rfl

theorem slot_timed (s : State) (v : BitVec 16) (k : SlotId) (h : Handle) :
    (s.timed v k h).slot = s.slot.set k (s.slot[k].serviced s.patch[s.slot[k].midiCh] v) := rfl

theorem slot_timed_self (s : State) (v : BitVec 16) (k : SlotId) (h : Handle) :
    (s.timed v k h).slot[k] = s.slot[k].serviced s.patch[s.slot[k].midiCh] v := by
  rw [slot_timed, get_set, if_pos rfl]

theorem serviced_of_releasing {x : Slot} (hx : x.releasing = true) (P : Patch) (v : BitVec 16) :
    { advancedSlot x P v with releaseDuration := counted x.releaseDuration v } = x.serviced P v := by
  simp [Slot.serviced, advancedSlot, hx]

theorem serviced_of_not_releasing {x : Slot} (hx : x.releasing = false) (P : Patch) (v : BitVec 16) :
    advancedSlot x P v = x.serviced P v := by
  simp [Slot.serviced, advancedSlot, hx]

/-- A voice that is not Releasing has its counters and its LFO start (R241 to R243). -/
theorem serviceVoice_of_not_releasing {s : State} {k : SlotId} (hk : s.slot[k].releasing = false) (v : BitVec 16)
    (h : Handle) : serviceVoice cvs v k h s = (s.timed v k h, 0) := by
  have hadvanced : startLfo cvs k h (advanceDuration cvs v k s) = s.timed v k h := by
    rw [startLfo_advance, timed_eq, updSlot_congr (g := fun x => x.serviced s.patch[x.midiCh] v)
      (serviced_of_not_releasing hk _ v)]
  have hreleasing : (s.timed v k h).slot[k].releasing = false := by
    simpa only [slot_timed_self, Slot.serviced] using hk
  rw [serviceVoice, hadvanced, releaseTimer, if_neg (by simp only [hreleasing]; exact Bool.false_ne_true)]

theorem slot_slowestRate (h : Handle) (s : State) : (slowestRate cvs h s).2.slot = s.slot :=
  congrArg Frame.slot (frame_slowestRate h s)

/-- The outcome of the release timer, with the slowest rate that it found (R247). -/
def timerOutcome (k : SlotId) (h : Handle) (elapsed : BitVec 15) (r : BitVec 4 × State) : State × Nat :=
  if expired cvs r.1 elapsed then (r.2.silenced k h, 1) else (r.2, 0)

/-- A Releasing voice has its release time counted too, and is silenced when it is exceeded (R244 to R247). -/
theorem serviceVoice_of_releasing {s : State} {k : SlotId} (hk : s.slot[k].releasing = true) (v : BitVec 16)
    (h : Handle) : serviceVoice cvs v k h s =
      timerOutcome k h (counted s.slot[k].releaseDuration v) (slowestRate cvs h (s.timed v k h)) := by
  have hreleasing : (startLfo cvs k h (advanceDuration cvs v k s)).slot[k].releasing = true := by
    rw [startLfo_advance]
    simpa [operRun, advancedSlot] using hk
  have htimed : (startLfo cvs k h (advanceDuration cvs v k s)).updSlot k
      (fun x => { x with releaseDuration := satAdd cvs x.releaseDuration v }) = s.timed v k h := by
    rw [startLfo_advance, timed_eq, operRun_updSlot, updSlot_updSlot,
      updSlot_congr (g := fun x => x.serviced s.patch[x.midiCh] v) (serviced_of_releasing hk _ v)]
  have helapsed : (s.timed v k h).slot[k].releaseDuration = counted s.slot[k].releaseDuration v := by
    simp only [slot_timed_self, Slot.serviced, hk, if_true]
  simp only [serviceVoice, releaseTimer, hreleasing, if_true, htimed, slot_slowestRate, helapsed, forceSilence_eq, timerOutcome]

/-! ### The slowest rate (R245 to R247) -/

theorem expired_eq (rate : BitVec 4) (elapsed : BitVec 15) :
    expired cvs rate elapsed = releaseOver rate.toNat elapsed.toNat := by
  have htable : ∀ rate : BitVec 4, (rate = 0 ∧ cvs.releaseMs[rate.toFin] = none)
      ∨ (rate ≠ 0 ∧ rate.toNat ≠ 0 ∧ cvs.releaseMs[rate.toFin] = some
        (([0, 32000, 19641, 9821, 4911, 2456, 1228, 614, 307, 154, 77, 39, 20, 10, 5, 3] : List Nat).getD rate.toNat 0)) := by
    decide
  obtain ⟨rfl, hms⟩ | ⟨hrate, hnat, hms⟩ := htable rate
  · simp only [expired, hms]
    rfl
  · simp only [expired, hms, releaseOver, bne_iff_ne.2 hrate, bne_iff_ne.2 hnat, Bool.true_and]

/-- The slowest rate is the least of the operators' cached rates (R245). -/
theorem slowestRate_of_slowest {s : State} {h : Handle} {r : Nat} (hr : slowest s h = some r) :
    ∃ rate, slowestRate cvs h s = (rate, s) ∧ rate.toNat = r := by
  have hmin : ∀ (l : List OperId) (x : BitVec 4),
      (l.foldl (fun x n => if s.oper[n].rr < x then s.oper[n].rr else x) x).toNat =
        (l.map (fun n => s.oper[n].rr.toNat)).foldl min x.toNat := by
    intro l
    induction l with
    | nil => intro x; rfl
    | cons n l ih =>
      intro x
      rw [List.foldl_cons, ih, List.map_cons, List.foldl_cons]
      congr 1
      split <;> bv_omega
  simp only [slowest] at hr
  cases hops : opsOf cvs s h with
  | nil =>
    rw [hops] at hr
    cases hr
  | cons n l =>
    rw [hops, List.map_cons, List.min?_cons', Option.some.injEq] at hr
    simp only [slowestRate, hops]
    exact ⟨_, rfl, (hmin l _).trans hr⟩

/-- The slowest rate depends on the operators of the handle and their cached rates alone. -/
theorem slowest_congr {s t : State} (hc : t.ctype = s.ctype) {h : Handle}
    (hrr : ∀ n ∈ opsOf cvs s h, t.oper[n].rr = s.oper[n].rr) : slowest t h = slowest s h := by
  rw [slowest, slowest, opsOf_congr hc]
  congr 1
  exact List.map_congr_left fun n hn => by rw [hrr n hn]

/-! ### The slot of a voice after its SERVICE -/

theorem slot_silenced (s : State) (k : SlotId) (h : Handle) : (s.silenced k h).slot = s.slot.set k slotReset := by
  have hslot : (s.silenced k h).slot = (s.stolen k h).slot := congrArg Frame.slot (frame_silenced s k h)
  rw [hslot, slot_stolen]

/-- SERVICE gives a voice its new counters, or frees a Releasing one (R241 to R247). -/
theorem slot_serviceVoice (v : BitVec 16) (k : SlotId) (h : Handle) (s : State) :
    ∃ y, (y = s.slot[k].serviced s.patch[s.slot[k].midiCh] v ∨ s.slot[k].releasing = true ∧ y = slotReset)
      ∧ (serviceVoice cvs v k h s).1.slot = s.slot.set k y := by
  cases hk : s.slot[k].releasing with
  | false =>
    rw [serviceVoice_of_not_releasing hk]
    exact ⟨_, .inl rfl, slot_timed ..⟩
  | true =>
    rw [serviceVoice_of_releasing hk, timerOutcome]
    split
    · exact ⟨slotReset, .inr ⟨rfl, rfl⟩, by rw [slot_silenced, slot_slowestRate, slot_timed, Vector.set_set]⟩
    · exact ⟨_, .inl rfl, by rw [slot_slowestRate, slot_timed]⟩

end Sys2Proof.ServiceVoice
end

section
/-! What each command may do to a voice slot (R171) and to a patch (R179, R180, R200), said once for every command. -/

namespace Sys2Proof.VoiceMoves

open Sys2Proof.Machine Sys2Proof.Allocation Sys2Proof.CommandMoves Sys2Proof.AllocatorInvariant
  Sys2Proof.SlotInvariant Sys2Proof.MayChange Sys2Proof.Visits Sys2Proof.ServiceVoice Sys2Proof.Refusals

/-! ### The slot and the patches under the voice manager's procedures -/

theorem frame_keyOff (h : Handle) (t : State) : frame (attempt (setKey cvs false h) t) = frame t :=
  frame_attempt fun _ e => frame_setKey e

theorem slot_releaseVoice (k : SlotId) (h : Handle) (t : State) :
    (releaseVoice cvs k h t).slot = t.slot.set k t.slot[k].released := by
  have hslot : (attempt (setKey cvs false h) t).slot = t.slot := congrArg Frame.slot (frame_keyOff h t)
  rw [releaseVoice, updSlot_slot, hslot]
  rfl

theorem patch_releaseVoice (k : SlotId) (h : Handle) (t : State) : (releaseVoice cvs k h t).patch = t.patch :=
  congrArg Frame.patch (frame_keyOff h t)

/-- `StopVoice` on a slot, by the pedal of its MIDI channel (R177). -/
def stoppedSlot (x : Slot) (pedal : Bool) : Slot := if pedal then { x with sustained := true } else x.released

theorem slot_stopVoice (k : SlotId) (h : Handle) (t : State) :
    (stopVoice cvs k h t).slot = t.slot.set k (stoppedSlot t.slot[k] t.patch[t.slot[k].midiCh].pedal) := by
  unfold stopVoice stoppedSlot
  split
  · rfl
  · exact slot_releaseVoice k h t

theorem patch_stopVoice (k : SlotId) (h : Handle) (t : State) : (stopVoice cvs k h t).patch = t.patch := by
  unfold stopVoice
  split
  · rfl
  · exact patch_releaseVoice k h t

theorem slot_forceSilence (k : SlotId) (h : Handle) (t : State) :
    (forceSilence cvs k h t).slot = t.slot.set k slotReset := by
  rw [forceSilence_eq, slot_silenced]

theorem patch_silenced (t : State) (k : SlotId) (h : Handle) : (t.silenced k h).patch = t.patch := by
  have hpatch : (t.silenced k h).patch = (t.stolen k h).patch := congrArg Frame.patch (frame_silenced t k h)
  rw [hpatch, patch_stolen]

theorem patch_forceSilence (k : SlotId) (h : Handle) (t : State) : (forceSilence cvs k h t).patch = t.patch := by
  rw [forceSilence_eq, patch_silenced]

theorem patch_slowestRate (h : Handle) (t : State) : (slowestRate cvs h t).2.patch = t.patch :=
  congrArg Frame.patch (frame_slowestRate h t)

theorem patch_serviceVoice (v : BitVec 16) (k : SlotId) (h : Handle) (t : State) :
    (serviceVoice cvs v k h t).1.patch = t.patch := by
  cases hk : t.slot[k].releasing with
  | false =>
    rw [serviceVoice_of_not_releasing hk]
    rfl
  | true =>
    rw [serviceVoice_of_releasing hk, timerOutcome]
    split
    · rw [patch_silenced, patch_slowestRate]
      rfl
    · rw [patch_slowestRate]
      rfl

/-! ### What a command may do to one slot -/

/-- A command that may free a Releasing voice without being asked to: SERVICE by its timer, NOTE_ON by its steal (R171). -/
def freesReleasing : Instr → Bool
  | .service .. | .noteOn .. => true
  | _ => false

/-- What command `i` may make of the slot `x`, the pedal of whose MIDI channel stands at `pedal` (R171 to R180). -/
inductive SlotStep (i : Instr) (pedal : Bool) (x : Slot) : Slot → Prop
  | same : SlotStep i pedal x x
  | sustain : asksRelease i x = true → pedal = true → SlotStep i pedal x { x with sustained := true }
  | release : (asksRelease i x = true ∧ pedal = false) ∨ (raisesPedal i x = true ∧ x.sustained = true) →
      SlotStep i pedal x x.released
  | silence : forcesSilence i x = true → SlotStep i pedal x slotReset
  | expire : freesReleasing i = true → x.releasing = true → SlotStep i pedal x slotReset
  | count (P : Patch) (v : BitVec 16) : i = .service v → SlotStep i pedal x (x.serviced P v)
  | bind (m : MidiId) (note vel : BitVec 7) (h : Handle) : isNoteOn i = true → x.lchan = none →
      SlotStep i pedal x (boundSlot m note vel h)

/-- What command `i` may do to the slots, and to the patches of the MIDI channels that it does not name. -/
structure VoiceEffect (i : Instr) (s t : State) : Prop where
  slots : ∀ k : SlotId, SlotStep i s.patch[s.slot[k].midiCh].pedal s.slot[k] t.slot[k]
  patches : ∀ m : MidiId, (∀ a, midiOperand i = some a → a.toNat ≠ m.val) → t.patch[m] = s.patch[m]

section Effects
variable {i : Instr} {s t u : State}

theorem VoiceEffect.of_eq (hslot : t.slot = s.slot) (hpatch : t.patch = s.patch) : VoiceEffect i s t :=
  ⟨fun k => by rw [hslot]; exact .same, fun m _ => by rw [hpatch]⟩

theorem VoiceEffect.complete {v : Byte} (h : VoiceEffect i s u) (e : Machine.complete v u = .next t) : VoiceEffect i s t := by
  obtain rfl := Host.Outcome.next.inj e
  exact ⟨h.slots, h.patches⟩

theorem VoiceEffect.refuse {c : Code} {v : Byte} (h : VoiceEffect i s u) (e : Machine.refuse c v u = .next t) :
    VoiceEffect i s t := by
  obtain rfl := Host.Outcome.next.inj e
  exact ⟨h.slots, h.patches⟩

theorem VoiceEffect.refused {c : Code} {v : Byte} (e : Machine.refuse c v s = .next t) : VoiceEffect i s t :=
  (VoiceEffect.of_eq rfl rfl : VoiceEffect i s s).refuse e

/-- A change of the patch that the command names. -/
theorem VoiceEffect.updPatch (h : VoiceEffect i s u) {a : Byte} {m : MidiId} (hi : midiOperand i = some a)
    (ha : a.toNat = m.val) (f : Patch → Patch) : VoiceEffect i s (u.updPatch m f) := by
  refine ⟨h.slots, fun n hn => ?_⟩
  have hnm : n ≠ m := fun e => hn a hi (e ▸ ha)
  rw [updPatch_patch, get_set, if_neg hnm]
  exact h.patches n hn

/-- Visits that change no patch, after a change of the patches that the command may make. -/
theorem VoiceEffect.visit {sel : Slot → Bool} {body : SlotId → Handle → State → State × Nat} (hown : OwnSlot body)
    (hpatch : ∀ k h t, (body k h t).1.patch = t.patch) (h : VoiceEffect i s u) (hslot : u.slot = s.slot)
    (hvisit : ∀ k g w, sel s.slot[k] = true → w.patch = u.patch → w.slot[k] = s.slot[k] →
      SlotStep i s.patch[s.slot[k].midiCh].pedal s.slot[k] (body k g w).1.slot[k]) :
    VoiceEffect i s (visitVoices sel body u).1 := by
  refine ⟨fun k => ?_, fun m hm => ?_⟩
  · obtain ⟨-, e⟩ | ⟨g, w, -, hsel, hw, hk, e⟩ := visit_slot (sel := sel) hown (P := fun w => w.patch = u.patch) k rfl
      (fun j g w _ _ hw => (hpatch j g w).trans hw)
    · rw [e, hslot]
      exact .same
    · rw [e]
      exact hvisit k g w (hslot ▸ hsel) hw (hslot ▸ hk)
  · have hkept : (visitVoices sel body u).1.patch = u.patch :=
      visit_induct (P := fun w => w.patch = u.patch) (fun k g w hw _ _ => (hpatch k g w).trans hw) rfl
    rw [hkept]
    exact h.patches m hm

theorem ownSlot_of_frame {body : SlotId → Handle → State → State × Nat}
    (hframe : ∀ k h t, frame (body k h t).1 = frame t) : OwnSlot body := by
  intro k h t
  have hslot : (body k h t).1.slot = t.slot := congrArg Frame.slot (hframe k h t)
  exact ⟨t.slot[k], by rw [hslot]; simp⟩

/-- Visits that stay within the register cache. -/
theorem VoiceEffect.visit_frame {sel : Slot → Bool} {body : SlotId → Handle → State → State × Nat}
    (hframe : ∀ k h t, frame (body k h t).1 = frame t) (h : VoiceEffect i s u) (hslot : u.slot = s.slot) :
    VoiceEffect i s (visitVoices sel body u).1 := by
  refine h.visit (ownSlot_of_frame hframe) (fun k g t => congrArg Frame.patch (hframe k g t)) hslot fun k g w _ _ hk => ?_
  have hkept : (body k g w).1.slot = w.slot := congrArg Frame.slot (hframe k g w)
  rw [hkept, hk]
  exact .same

theorem midiChannel_val {a : Byte} {m : MidiId} (h : midiChannel a = some m) : a.toNat = m.val := by
  simp only [midiChannel] at h
  split at h
  · cases h
    rfl
  · cases h

theorem sevenBit_toNat {c : Byte} {v : BitVec 7} (h : sevenBit c = some v) : c.toNat = v.toNat := by
  simp only [sevenBit] at h
  split at h
  · cases h
    rw [BitVec.toNat_setWidth]
    omega
  · cases h

theorem VoiceEffect.ctrlCommand {a c : Byte} {body : MidiId → BitVec 7 → State → Except Code State}
    (hb : ∀ m v u, a.toNat = m.val → c.toNat = v.toNat → body m v s = .ok u → VoiceEffect i s u)
    (e : Machine.ctrlCommand a c body s = .next t) : VoiceEffect i s t := by
  simp only [Machine.ctrlCommand] at e
  split at e
  · rename_i hm hv
    split at e
    · rename_i hu
      exact (hb _ _ _ (midiChannel_val hm) (sevenBit_toNat hv) hu).complete e
    · exact VoiceEffect.refused e
  · exact VoiceEffect.refused e

/-! ### The controllers -/

theorem VoiceEffect.forVoices_frame {m : MidiId} {body : SlotId → Handle → State → State}
    (hframe : ∀ k h t, frame (body k h t) = frame t) (h : VoiceEffect i s u) (hslot : u.slot = s.slot) :
    VoiceEffect i s (forVoices m body u) := h.visit_frame (body := fun k h t => (body k h t, 0)) hframe hslot

theorem VoiceEffect.refl (i : Instr) (s : State) : VoiceEffect i s s := .of_eq rfl rfl

variable {a c : Byte} (hi : midiOperand i = some a)
include hi

theorem effect_ctrlVolume (e : execCtrlVolume a c s = .next t) : VoiceEffect i s t := by
  refine VoiceEffect.ctrlCommand (fun m v u hm _ eb => ?_) e
  obtain rfl := ok_eq eb
  refine ((VoiceEffect.refl i s).updPatch hi hm _).forVoices_frame (fun k h t => frame_forOpIndices (fun j u => ?_) t) rfl
  split
  · exact frame_setAtten ..
  · rfl

theorem effect_ctrlAlgorithm (e : execCtrlAlgorithm a c s = .next t) : VoiceEffect i s t := by
  refine VoiceEffect.ctrlCommand (fun m v u hm _ eb => ?_) e
  split at eb
  · exact (not_ok eb).elim
  · obtain rfl := ok_eq eb
    refine ((VoiceEffect.refl i s).updPatch hi hm _).forVoices_frame (fun k h t => ?_) rfl
    rw [frame_forOpIndices (fun j u => frame_setAtten k h j u)]
    exact frame_attempt fun _ e => frame_setAlgorithm e

theorem effect_ctrlFeedback (e : execCtrlFeedback a c s = .next t) : VoiceEffect i s t := by
  refine VoiceEffect.ctrlCommand (fun m v u hm _ eb => ?_) e
  obtain rfl := ok_eq eb
  exact ((VoiceEffect.refl i s).updPatch hi hm _).forVoices_frame
    (fun k h t => frame_attempt fun _ e => frame_setFeedback e) rfl

theorem effect_ctrlOutput (e : execCtrlOutput a c s = .next t) : VoiceEffect i s t := by
  refine VoiceEffect.ctrlCommand (fun m v u hm _ eb => ?_) e
  obtain rfl := ok_eq eb
  exact ((VoiceEffect.refl i s).updPatch hi hm _).forVoices_frame
    (fun k h t => frame_attempt fun _ e => frame_setOutput e) rfl

theorem effect_ctrlLfoDelay (e : execCtrlLfoDelay a c s = .next t) : VoiceEffect i s t := by
  refine VoiceEffect.ctrlCommand (fun m v u hm _ eb => ?_) e
  obtain rfl := ok_eq eb
  exact (VoiceEffect.refl i s).updPatch hi hm _

theorem effect_opCtrl {w : Nat} {put : Nat → Template → Template} {how : OpApply} {j : BitVec 2}
    (e : opCtrl cvs w put how a j c s = .next t) : VoiceEffect i s t := by
  refine VoiceEffect.ctrlCommand (fun m v u hm _ eb => ?_) e
  obtain rfl := ok_eq eb
  exact ((VoiceEffect.refl i s).updPatch hi hm _).forVoices_frame (frame_opApply how _ _) rfl

omit hi

theorem ownSlot_releaseVoice (n : Nat) : OwnSlot (fun k h t => (releaseVoice cvs k h t, n)) :=
  fun k h t => ⟨_, slot_releaseVoice k h t⟩

theorem ownSlot_stopVoice (n : Nat) : OwnSlot (fun k h t => (stopVoice cvs k h t, n)) :=
  fun k h t => ⟨_, slot_stopVoice k h t⟩

theorem ownSlot_forceSilence (n : Nat) : OwnSlot (fun k h t => (forceSilence cvs k h t, n)) :=
  fun k h t => ⟨_, slot_forceSilence k h t⟩

theorem ownSlot_serviceVoice (v : BitVec 16) : OwnSlot (serviceVoice cvs v) := fun k h t => by
  obtain ⟨y, -, hy⟩ := slot_serviceVoice v k h t
  exact ⟨y, hy⟩

/-- The forced silence of the voices of the MIDI channel that the command names. -/
theorem effect_silenceAll {m : MidiId} (hforce : ∀ x : Slot, x.midiCh = m → forcesSilence i x = true) :
    VoiceEffect i s (forVoices m (forceSilence cvs) s) := by
  refine (VoiceEffect.refl i s).visit (ownSlot_forceSilence 0) (fun k h t => patch_forceSilence k h t) rfl
    fun k g w hsel _ _ => ?_
  simp only [slot_forceSilence, get_set, if_true]
  exact .silence (hforce _ (by simpa [ofChannel] using hsel))

theorem names_of_eq {x : Slot} {m : MidiId} (ha : a.toNat = m.val) (hx : x.midiCh = m) : names a x.midiCh = true := by
  rw [names, hx, ha, beq_self_eq_true]

theorem effect_ctrlProgram (e : execCtrlProgram a c s = .next t) : VoiceEffect (.ctrlProgram a c) s t := by
  refine VoiceEffect.ctrlCommand (fun m v u hm _ eb => ?_) e
  split at eb
  · exact (not_ok eb).elim
  · obtain rfl := ok_eq eb
    exact (effect_silenceAll (i := .ctrlProgram a c) fun x hx => names_of_eq hm hx).updPatch rfl hm _

theorem effect_ctrlAllSoundOff (e : execCtrlAllSoundOff a c s = .next t) : VoiceEffect (.ctrlAllSoundOff a c) s t := by
  refine VoiceEffect.ctrlCommand (fun m v u hm _ eb => ?_) e
  obtain rfl := ok_eq eb
  exact effect_silenceAll fun x hx => names_of_eq hm hx

/-- `StopVoice` for each voice that the command asks to be released (R177). -/
theorem effect_stopAll {sel : Slot → Bool} {n : Nat} (hasks : ∀ x : Slot, sel x = true → asksRelease i x = true) :
    VoiceEffect i s (visitVoices sel (fun k h t => (stopVoice cvs k h t, n)) s).1 := by
  refine (VoiceEffect.refl i s).visit (ownSlot_stopVoice n) (fun k h t => patch_stopVoice k h t) rfl
    fun k g w hsel hpatch hk => ?_
  simp only [slot_stopVoice, get_set, if_true, hpatch, hk, stoppedSlot]
  split
  · next hp => exact .sustain (hasks _ hsel) hp
  · next hp => exact .release (.inl ⟨hasks _ hsel, Bool.eq_false_iff.2 hp⟩)

theorem effect_ctrlAllNotesOff (e : execCtrlAllNotesOff a c s = .next t) : VoiceEffect (.ctrlAllNotesOff a c) s t := by
  refine VoiceEffect.ctrlCommand (fun m v u hm _ eb => ?_) e
  obtain rfl := ok_eq eb
  exact effect_stopAll fun x hx => names_of_eq hm (by simpa [ofChannel] using hx)

theorem effect_noteOff {b : Byte} (e : execNoteOff a b s = .next t) : VoiceEffect (.noteOff a b) s t := by
  simp only [execNoteOff] at e
  split at e
  · rename_i m note hm hnote
    refine VoiceEffect.complete (effect_stopAll fun x hx => ?_) e
    simp only [ofChannel, Bool.and_eq_true, beq_iff_eq] at hx
    obtain ⟨hch, hxnote⟩ := hx
    rw [asksRelease, names_of_eq (midiChannel_val hm) hch, hxnote, sevenBit_toNat hnote, beq_self_eq_true, Bool.and_true]
  · exact VoiceEffect.refused e

/-- A pedal value that scales to 0 is below 64 (R87, R221). -/
theorem lt_of_scaled_one_ne {v : BitVec 7} (h : ¬ scaled 1 v = 1) : v.toNat < 64 := by
  have hv := v.isLt
  simp only [scaled, Nat.shiftRight_eq_div_pow] at h
  omega

theorem effect_ctrlSustainPedal (e : execCtrlSustainPedal a c s = .next t) :
    VoiceEffect (.ctrlSustainPedal a c) s t := by
  refine VoiceEffect.ctrlCommand (fun m v u hm hc eb => ?_) e
  have hstored (f : Patch → Patch) : VoiceEffect (.ctrlSustainPedal a c) s (s.updPatch m f) :=
    (VoiceEffect.refl _ s).updPatch rfl hm f
  split at eb
  · obtain rfl := ok_eq eb
    exact hstored _
  · rename_i hup
    obtain rfl := ok_eq eb
    refine (hstored _).visit (ownSlot_releaseVoice 0) (fun k h t => patch_releaseVoice k h t) rfl fun k g w hsel _ hk => ?_
    simp only [ofChannel, Bool.and_eq_true, beq_iff_eq] at hsel
    obtain ⟨hch, hsus⟩ := hsel
    have hraise : raisesPedal (.ctrlSustainPedal a c) s.slot[k] = true := by
      rw [raisesPedal, names_of_eq hm hch, hc, Bool.true_and, decide_eq_true (lt_of_scaled_one_ne hup)]
    simp only [slot_releaseVoice, get_set, if_true, hk]
    exact .release (.inr ⟨hraise, hsus⟩)

/-! ### PITCH_BEND, SERVICE, NOTE_ON -/

theorem effect_pitchBend {v : BitVec 16} (e : execPitchBend a v s = .next t) : VoiceEffect (.pitchBend a v) s t := by
  simp only [execPitchBend] at e
  split at e
  · exact VoiceEffect.refused e
  · rename_i m hm
    split at e
    · exact VoiceEffect.refused e
    · refine VoiceEffect.complete (VoiceEffect.visit_frame (fun k h t => ?_)
        ((VoiceEffect.refl _ s).updPatch rfl (midiChannel_val hm) _) rfl) e
      exact frame_attempt fun _ e => frame_setFreq e

theorem effect_service {v : BitVec 16} (e : execService v s = .next t) : VoiceEffect (.service v) s t := by
  refine VoiceEffect.complete ((VoiceEffect.refl _ s).visit (ownSlot_serviceVoice v)
    (fun k h t => patch_serviceVoice v k h t) rfl fun k g w _ _ hk => ?_) e
  obtain ⟨y, hy, hslot⟩ := slot_serviceVoice v k g w
  simp only [hslot, get_set, if_true]
  simp only [hk] at hy
  obtain rfl | ⟨hrel, rfl⟩ := hy
  · exact .count _ v rfl
  · exact .expire rfl hrel

/-- Step (3) of NOTE_ON: the steal of the first Releasing voice or none, then an allocation or none (R172, R178). -/
theorem allocOrSteal_steps {ty : ChType} {s s' : State} {r : Option Handle} (e : allocOrSteal cvs ty s = (r, s')) :
    ∃ u, (u = s ∨ FirstStolen s u) ∧ ((r = none ∧ s' = u) ∨ ∃ h, r = some h ∧ Allocated u h s') := by
  simp only [allocOrSteal] at e
  split at e
  · rename_i hok
    cases e
    exact ⟨s, .inl rfl, .inr ⟨_, rfl, allocated_of_allocate hok⟩⟩
  · split at e
    · cases e
      exact ⟨s, .inl rfl, .inl ⟨rfl, rfl⟩⟩
    · rename_i v hv
      obtain ⟨⟨h, hbound⟩, hreleasing, hfirst⟩ := firstReleasing_some hv
      rw [stealVoice_eq hbound] at e
      refine ⟨s.stolen v h, .inr ⟨v, h, hbound, hreleasing, hfirst, rfl⟩, ?_⟩
      split at e
      · rename_i hok
        cases e
        exact .inr ⟨_, rfl, allocated_of_allocate hok⟩
      · cases e
        exact .inl ⟨rfl, rfl⟩

theorem effect_steal {u : State} (hi : freesReleasing i = true) (h : u = s ∨ FirstStolen s u) : VoiceEffect i s u := by
  obtain rfl | ⟨v, h, -, hrel, -, rfl⟩ := h
  · exact VoiceEffect.refl i u
  · refine ⟨fun k => ?_, fun m _ => by rw [patch_stolen]⟩
    rw [slot_stolen, get_set]
    split
    · next hk => exact .expire hi (hk ▸ hrel)
    · exact .same

theorem effect_noteOn {b : Byte} (e : execNoteOn a b c s = .next t) : VoiceEffect (.noteOn a b c) s t := by
  simp only [execNoteOn] at e
  split at e
  · split at e
    · exact VoiceEffect.refused e
    · rename_i m note vel _ _ _ _ k hk
      have hfree : s.slot[k].lchan = none := by simpa using List.find?_some hk
      split at e
      · rename_i hsteal
        obtain ⟨u, hu, ⟨-, rfl⟩ | ⟨h, hr, -⟩⟩ := allocOrSteal_steps hsteal
        · exact (effect_steal rfl hu).refuse e
        · cases hr
      · rename_i h w hsteal
        obtain ⟨u, hu, ⟨hr, -⟩ | ⟨h', hr, halloc⟩⟩ := allocOrSteal_steps hsteal
        · cases hr
        · have heffect : VoiceEffect (.noteOn a b c) s u := effect_steal rfl hu
          have hframe := frame_startVoice k m note vel h w
          have hslot : (startVoice cvs k m note vel h w).slot = w.slot.set k (boundSlot m note vel h) :=
            congrArg Frame.slot hframe
          have hpatch : (startVoice cvs k m note vel h w).patch = w.patch := congrArg Frame.patch hframe
          refine VoiceEffect.complete ⟨fun l => ?_, fun n hn => ?_⟩ e
          · rw [hslot, get_set, slot_allocated halloc]
            split
            · next hlk => exact .bind m note vel h rfl (hlk ▸ hfree)
            · exact heffect.slots l
          · rw [hpatch, patch_allocated halloc]
            exact heffect.patches n hn
  · exact VoiceEffect.refused e

/-! ### Every command -/

/-- A command that is no command of the voice manager leaves slots and patches alone (R181). -/
theorem effect_of_not_voiceManager (hw : i.wf cvs = true) (hinit : i ≠ .init) (hv : isVoiceManager i = false)
    (e : exec i s = .next t) : VoiceEffect i s t := by
  have hwithin := within_exec hw hinit e
  have hpatches : writesPatches i = false := by
    cases i with
    | noteOn | noteOff | ctrl | ctrlProgram | ctrlVolume | ctrlAlgorithm | ctrlFeedback | ctrlOutput | ctrlLfoDelay
    | ctrlOpAttack | ctrlOpDecay | ctrlOpSustain | ctrlOpRelease | ctrlOpWaveform | ctrlOpLevel | ctrlOpKsl | ctrlOpMult
    | ctrlOpTremolo | ctrlOpVibrato | ctrlOpSusflag | ctrlOpEnvscale | ctrlOpVelsens | ctrlSustainPedal | ctrlAllSoundOff
    | ctrlAllNotesOff | pitchBend | service => cases hv
    | _ => rfl
  exact .of_eq (hwithin.slots hv) (hwithin.patches hpatches)

/-- What every command but INIT may do to slots and patches. -/
theorem exec_effect (hw : i.wf cvs = true) (hinit : i ≠ .init) (e : exec i s = .next t) : VoiceEffect i s t := by
  by_cases hv : isVoiceManager i = true
  · cases i <;> simp only [exec] at e
    case noteOn => exact effect_noteOn e
    case noteOff => exact effect_noteOff e
    case ctrl a b c =>
      have hnone : controllerOf cvs b = none := by simpa [Instr.wf, assignedController] using hw
      simp only [execCtrl, hnone] at e
      exact VoiceEffect.refused e
    case ctrlProgram => exact effect_ctrlProgram e
    case ctrlVolume => exact effect_ctrlVolume rfl e
    case ctrlAlgorithm => exact effect_ctrlAlgorithm rfl e
    case ctrlFeedback => exact effect_ctrlFeedback rfl e
    case ctrlOutput => exact effect_ctrlOutput rfl e
    case ctrlLfoDelay => exact effect_ctrlLfoDelay rfl e
    case ctrlOpAttack | ctrlOpDecay | ctrlOpSustain | ctrlOpRelease | ctrlOpWaveform | ctrlOpLevel | ctrlOpKsl | ctrlOpMult
      | ctrlOpTremolo | ctrlOpVibrato | ctrlOpSusflag | ctrlOpEnvscale | ctrlOpVelsens => exact effect_opCtrl rfl e
    case ctrlSustainPedal => exact effect_ctrlSustainPedal e
    case ctrlAllSoundOff => exact effect_ctrlAllSoundOff e
    case ctrlAllNotesOff => exact effect_ctrlAllNotesOff e
    case pitchBend => exact effect_pitchBend e
    case service => exact effect_service e
    all_goals cases hv
  · exact effect_of_not_voiceManager hw hinit (Bool.eq_false_iff.2 hv) e

end Effects

/-! ### The table of R171 -/

section Table
variable {i : Instr} {pedal : Bool} {x y : Slot}

theorem moveAllowed_self (i : Instr) (x : Slot) (pedal : Bool) : moveAllowed i x pedal x.voice = true := by
  cases hx : x.voice <;> simp only [moveAllowed, hx]

theorem voice_eq_free (x : Slot) : x.voice = .free ↔ x.lchan = none := by
  cases hl : x.lchan <;> cases hr : x.releasing <;> cases hs : x.sustained <;> simp [Slot.voice, hl, hr, hs]

/-- A sustain bit moves a Playing voice to Sustained, and no other (R36). -/
theorem voice_sustained (x : Slot) :
    ({ x with sustained := true } : Slot).voice = if x.voice = .playing then .sustained else x.voice := by
  cases hl : x.lchan <;> cases hr : x.releasing <;> cases hs : x.sustained <;> simp [Slot.voice, hl, hr, hs]

/-- A release moves every bound voice to Releasing (R36). -/
theorem voice_released (x : Slot) : x.released.voice = if x.voice = .free then .free else .releasing := by
  cases hl : x.lchan <;> cases hr : x.releasing <;> cases hs : x.sustained <;>
    simp [Slot.voice, Slot.released, hl, hr, hs]

theorem sustained_of_voice (hx : x.voice = .playing) : x.sustained = false := by
  cases hl : x.lchan <;> cases hr : x.releasing <;> cases hs : x.sustained <;> simp_all [Slot.voice]

/-- A Releasing slot is Free or a Releasing voice (R36). -/
theorem voice_of_releasing (hx : x.releasing = true) : x.voice = .free ∨ x.voice = .releasing := by
  cases hl : x.lchan <;> simp [Slot.voice, hl, hx]

/-- Each step of a slot is a row of the table (R171). -/
theorem moveAllowed_of_slotStep (h : SlotStep i pedal x y) : moveAllowed i x pedal y.voice = true := by
  cases h with
  | same => exact moveAllowed_self ..
  | sustain hasks hpedal =>
    rw [voice_sustained]
    cases hx : x.voice <;> simp [moveAllowed, hx, hasks, hpedal]
  | release hwhy =>
    rw [voice_released]
    cases hx : x.voice with
    | free | releasing => simp [moveAllowed, hx]
    | playing =>
      obtain ⟨hasks, hpedal⟩ | ⟨-, hsus⟩ := hwhy
      · simp [moveAllowed, hx, hasks, hpedal]
      · rw [sustained_of_voice hx] at hsus
        cases hsus
    | sustained =>
      obtain ⟨hasks, hpedal⟩ | ⟨hraise, -⟩ := hwhy
      · simp [moveAllowed, hx, hasks, hpedal]
      · simp [moveAllowed, hx, hraise]
  | silence hforce =>
    have hreset : slotReset.voice = .free := rfl
    rw [hreset]
    cases hx : x.voice <;> simp [moveAllowed, hx, hforce]
  | expire hfrees hrel =>
    have hreset : slotReset.voice = .free := rfl
    rw [hreset]
    obtain hx | hx := voice_of_releasing hrel
    · simp only [moveAllowed, hx]
    · simp only [moveAllowed, hx]
      rw [Bool.or_eq_true]
      exact .inr hfrees
  | count P v _ =>
    have hcount : (x.serviced P v).voice = x.voice := rfl
    rw [hcount]
    exact moveAllowed_self ..
  | bind m note vel h hi hfree =>
    have hbound : (boundSlot m note vel h).voice = .playing := rfl
    rw [hbound]
    simp only [moveAllowed, (voice_eq_free x).2 hfree]
    exact hi

/-- A slot that stays bound keeps its voice's channel, note, velocity and handle. -/
theorem voice_kept_of_slotStep (h : SlotStep i pedal x y) (hx : x.lchan ≠ none) (hy : y.lchan ≠ none) :
    y.midiCh = x.midiCh ∧ y.note = x.note ∧ y.velocity = x.velocity ∧ y.lchan = x.lchan := by
  cases h with
  | same | sustain | release | count => exact ⟨rfl, rfl, rfl, rfl⟩
  | silence | expire => exact absurd rfl hy
  | bind _ _ _ _ _ hfree => exact absurd hfree hx

/-- A command that names a MIDI channel, NOTE_ON excepted, leaves the slots of the other channels (R179, R180, R200). -/
theorem slotStep_of_other (h : SlotStep i pedal x y) {a : Byte} (hop : midiOperand i = some a) (hn : isNoteOn i = false)
    (hne : a.toNat ≠ x.midiCh.val) : y = x := by
  have hnames : names a x.midiCh = false := beq_eq_false_iff_ne.2 hne
  have hasks : asksRelease i x = false := by
    cases i <;> cases hop <;> simp [asksRelease, hnames]
  have hraise : raisesPedal i x = false := by
    cases i <;> cases hop <;> simp [raisesPedal, hnames]
  have hforce : forcesSilence i x = false := by
    cases i <;> cases hop <;> simp [forcesSilence, hnames]
  cases h with
  | same => rfl
  | sustain h => rw [hasks] at h; cases h
  | release h => rw [hasks, hraise] at h; simp at h
  | silence h => rw [hforce] at h; cases h
  | expire h => cases i <;> cases hop <;> cases h; cases hn
  | count P v h => rw [h] at hop; cases hop
  | bind _ _ _ _ h => rw [hn] at h; cases h

end Table

/-- Settles O24: each command does to a slot only what `SlotStep` names, and that is in the table. -/
theorem voiceTransitions : Obligations.VoiceTransitions := by
  intro i s t hw hinit e k
  have hstep := (exec_effect hw hinit e).slots k
  exact ⟨moveAllowed_of_slotStep hstep, voice_kept_of_slotStep hstep⟩

/-- Settles O27: the effect on slots and patches, for a MIDI channel that the command does not name. -/
theorem channelsIsolated : Obligations.ChannelsIsolated := by
  intro i a s t m hw hop hne e
  have hinit : i ≠ .init := by
    rintro rfl
    cases hop
  have heffect := exec_effect hw hinit e
  refine ⟨heffect.patches m fun b hb => ?_, fun hnote k hk => ?_⟩
  · rwa [Option.some.inj (hb.symm.trans hop)]
  · refine slotStep_of_other (heffect.slots k) hop ?_ (hk ▸ hne)
    cases i with
    | noteOn b c d =>
      cases hop
      exact absurd rfl (hnote c d)
    | _ => rfl

end Sys2Proof.VoiceMoves
end

section
/-! The release timer (R245 to R247), and the whole of a SERVICE that frees one voice (R241, R249). -/

namespace Sys2Proof.ReleaseExpiry

open Sys2Proof.Machine Sys2Proof.CommandMoves Sys2Proof.AllocatorInvariant Sys2Proof.Visits Sys2Proof.OperatorRuns
  Sys2Proof.ServiceVoice Sys2Proof.VoiceMoves

/-! ### What a SERVICE leaves of the types and of another voice's release rates -/

theorem ctype_stolen (s : State) (k : SlotId) (h : Handle) : (s.stolen k h).ctype = s.ctype := by
  obtain ⟨_, _, _, hstolen⟩ := frame_stolen s k h
  exact congrArg Frame.ctype hstolen

theorem ctype_silenced (s : State) (k : SlotId) (h : Handle) : (s.silenced k h).ctype = s.ctype := by
  have hctype : (s.silenced k h).ctype = (s.stolen k h).ctype := congrArg Frame.ctype (frame_silenced s k h)
  rw [hctype, ctype_stolen]

theorem oper_foldl_of_notMem (f : Oper → Oper) {n : OperId} (ns : List OperId) (hn : n ∉ ns) (v : Vector Oper 36) :
    (ns.foldl (fun (o : Vector Oper 36) (m : OperId) => o.set m (f o[m])) v)[n] = v[n] := by
  induction ns generalizing v with
  | nil => rfl
  | cons m ns ih =>
    rw [List.mem_cons, not_or] at hn
    rw [List.foldl_cons, ih hn.2, get_set, if_neg hn.1]

/-- A forced silence leaves the operators of other voices alone (R176). -/
theorem oper_silenced {s : State} {h : Handle} {n : OperId} (hn : n ∉ opsOf cvs s h) (k : SlotId) :
    (s.silenced k h).oper[n] = s.oper[n] := by
  simp only [State.silenced]
  split
  · exact oper_foldl_of_notMem (fun o => { o with tl := 63, rr := 15 }) _ hn s.oper
  · rfl

/-- The LFO start leaves every release rate alone (R243). -/
theorem rr_timed (s : State) (v : BitVec 16) (k : SlotId) (h : Handle) (n : OperId) :
    (s.timed v k h).oper[n].rr = s.oper[n].rr := by
  rw [timed_eq]
  exact oper_operRun_field (put := putModulation) (writes := flagWrites) (g := Oper.rr) (fun _ _ => rfl) _ _ n

theorem slowest_timed (s : State) (v : BitVec 16) (k : SlotId) (h : Handle) : slowest (s.timed v k h) h = slowest s h :=
  slowest_congr (s := s) (t := s.timed v k h) rfl fun n _ => rr_timed s v k h n

/-- The slowest rate may draw a free value; types and operators stay (R245, log 4). -/
theorem slowestRate_kept (s : State) (h : Handle) :
    (slowestRate cvs h s).2.ctype = s.ctype ∧ (slowestRate cvs h s).2.oper = s.oper := by
  unfold slowestRate
  split <;> exact ⟨rfl, rfl⟩

theorem serviceVoice_kept (s : State) (v : BitVec 16) (k : SlotId) (h : Handle) :
    (serviceVoice cvs v k h s).1.ctype = s.ctype
      ∧ ∀ n, n ∉ opsOf cvs s h → (serviceVoice cvs v k h s).1.oper[n].rr = s.oper[n].rr := by
  obtain ⟨hctype, hoper⟩ := slowestRate_kept (s.timed v k h) h
  cases hk : s.slot[k].releasing with
  | false =>
    rw [serviceVoice_of_not_releasing hk]
    exact ⟨rfl, fun n _ => rr_timed s v k h n⟩
  | true =>
    rw [serviceVoice_of_releasing hk, timerOutcome]
    split
    · refine ⟨(ctype_silenced ..).trans hctype, fun n hn => ?_⟩
      rw [oper_silenced (by rwa [opsOf_congr (hctype.trans rfl)]), hoper, rr_timed]
    · exact ⟨hctype, fun n _ => by simp only [hoper, rr_timed]⟩

/-! ### The timer of one voice -/

/-- A Releasing voice is freed exactly when its release time is exceeded (R245 to R247). -/
theorem freed_iff_releaseOver {s : State} {k : SlotId} {h : Handle} {r : Nat} (hk : s.slot[k].lchan = some h)
    (hrel : s.slot[k].releasing = true) (hr : slowest s h = some r) (v : BitVec 16) :
    (serviceVoice cvs v k h s).1.slot[k].lchan = none
      ↔ releaseOver r (counted s.slot[k].releaseDuration v).toNat = true := by
  have htimed := (slowest_timed s v k h).trans hr
  obtain ⟨rate, hrate, rfl⟩ := slowestRate_of_slowest htimed
  rw [serviceVoice_of_releasing hrel, hrate, timerOutcome, expired_eq]
  split
  · next hover => simp only [hover, slot_silenced, get_set, if_true, slotReset]
  · next hover =>
    simp only [hover, slot_timed_self, Slot.serviced, hk]
    simp

/-- The first half: each Releasing voice comes to its timer with its release rates as they were. -/
theorem service_frees (s : State) (v : BitVec 16)
    (hdisjoint : ∀ (k l : SlotId) (h g : Handle), s.slot[k].lchan = some h → s.slot[l].lchan = some g → k ≠ l →
      ∀ n ∈ opsOf cvs s h, n ∉ opsOf cvs s g)
    {k : SlotId} {h : Handle} {r : Nat} (hk : s.slot[k].lchan = some h) (hrel : s.slot[k].releasing = true)
    (hr : slowest s h = some r) :
    (visitVoices (fun _ => true) (serviceVoice cvs v) s).1.slot[k].lchan = none
      ↔ releaseOver r (counted s.slot[k].releaseDuration v).toNat = true := by
  obtain ⟨hpass, -⟩ | ⟨g, u, hg, -, ⟨hctype, hrates⟩, hslot, e⟩ := visit_slot (sel := fun _ => true) (ownSlot_serviceVoice v)
    (P := fun u => u.ctype = s.ctype ∧ ∀ n ∈ opsOf cvs s h, u.oper[n].rr = s.oper[n].rr) k ⟨rfl, fun _ _ => rfl⟩
    (fun j g u hj hg hu => by
      obtain ⟨hctype, hrates⟩ := serviceVoice_kept u v j g
      refine ⟨hctype.trans hu.1, fun n hn => ?_⟩
      rw [hrates n (by rw [opsOf_congr hu.1]; exact hdisjoint k j h g hk hg (Ne.symm hj) n hn), hu.2 n hn])
  · rw [hk] at hpass
    simp at hpass
  · obtain rfl : h = g := Option.some.inj (hk.symm.trans hg)
    rw [e, ← hslot]
    exact freed_iff_releaseOver (hslot ▸ hk) (hslot ▸ hrel) ((slowest_congr hctype hrates).trans hr) v

/-! ### One voice whose release time is exceeded (R241, R249) -/

/-- The only bound voice is the only one visited. -/
theorem boundVoices_single {s : State} {k : SlotId} {h : Handle} (hk : s.slot[k].lchan = some h)
    (hfree : ∀ j : SlotId, j ≠ k → s.slot[j].lchan = none) : boundVoices s (fun _ => true) = [(k, h)] := by
  obtain ⟨before, after, hsplit⟩ := List.append_of_mem (mem_allSlots k)
  have hnodup := hsplit ▸ allSlots_nodup
  rw [List.nodup_middle, List.nodup_cons, List.mem_append, not_or] at hnodup
  obtain ⟨⟨hbefore, hafter⟩, -⟩ := hnodup
  have hnone : ∀ l : List SlotId, k ∉ l → l.filterMap (boundAt s fun _ => true) = [] := fun l hl =>
    List.filterMap_eq_nil_iff.2 fun j hj => boundAt_free (hfree j fun e => hl (e ▸ hj))
  rw [boundVoices, hsplit, List.filterMap_append, List.filterMap_cons, boundAt_voice hk rfl]
  simp only [hnone before hbefore, hnone after hafter, List.nil_append]

/-- The register writes that give operators their modulation flags (R243). -/
def modulationWrites (s : State) (ts : List (OperId × BitVec 1 × BitVec 1)) : List RegVal :=
  ts.map (fun q => (opReg q.1 0x20, (s.oper[q.1].modulated q.2.1 q.2.2).flagsByte cvs))

/-- The forced silence after the counters and the LFO start, as one change of the block with its register writes. -/
theorem silenced_timed {s : State} {k : SlotId} {h : Handle} (ha : s.allocd[h] = true) (v : BitVec 16) :
    (s.timed v k h).silenced k h = State.sends { s.freed h with
        slot := s.slot.set k slotReset, chan := s.chan.set (physChan cvs h) (silentChan s h)
        percKey := Vector.ofFn (fun r => if h = roleHandle r then false else s.percKey[r])
        oper := (opsOf cvs s h).foldl (fun (o : Vector Oper 36) (n : OperId) => o.set n { o[n] with tl := 63, rr := 15 })
          ((lfoDue s v k h).foldl (fun (o : Vector Oper 36) q => o.set q.1 (o[q.1].modulated q.2.1 q.2.2)) s.oper) }
      (modulationWrites s (lfoDue s v k h)
        ++ keyOffWrites s s.percKey [h] ++ silenceWrites s (opsOf cvs s h) ++ freqWrites (physChan cvs h) (silentChan s h)) := by
  have hfields (n : OperId) : (s.timed v k h).oper[n].ksl = s.oper[n].ksl ∧ (s.timed v k h).oper[n].sl = s.oper[n].sl := by
    rw [timed_eq]
    exact ⟨oper_operRun_field (put := putModulation) (writes := flagWrites) (g := Oper.ksl) (fun _ _ => rfl) _ _ n,
      oper_operRun_field (put := putModulation) (writes := flagWrites) (g := Oper.sl) (fun _ _ => rfl) _ _ n⟩
  have hops : opsOf cvs (s.timed v k h) h = opsOf cvs s h := rfl
  have hkeys : keyOffWrites (s.timed v k h) (s.timed v k h).percKey [h] = keyOffWrites s s.percKey [h] := rfl
  have hfreed : (s.timed v k h).freed h =
      State.sends { s.freed h with slot := (s.timed v k h).slot, oper := (s.timed v k h).oper }
        (modulationWrites s (lfoDue s v k h)) := by
    unfold State.freed
    split <;> rfl
  rw [State.silenced, if_pos (show (s.timed v k h).allocd[h] = true from ha), hops, hkeys, silenceWrites_congr hfields,
    hfreed, slot_timed, Vector.set_set]
  simp only [List.append_assoc]
  rw [← sends_sends _ (modulationWrites s (lfoDue s v k h))]
  rfl

theorem lfoDue_eq (s : State) (v : BitVec 16) (k : SlotId) (h : Handle) :
    lfoDue s v k h =
      if s.slot[k].lfoTriggered = false
          ∧ s.patch[s.slot[k].midiCh].lfoDelay.toNat * 32 < (counted s.slot[k].duration v).toNat then
        lfoTargets s s.patch[s.slot[k].midiCh] h
      else [] := rfl

/-- The release timer of a voice whose time is exceeded (R245 to R247). -/
theorem serviceVoice_over {s : State} {k : SlotId} {h : Handle} {r : Nat} {v : BitVec 16}
    (hrel : s.slot[k].releasing = true) (hr : slowest s h = some r)
    (hover : releaseOver r (counted s.slot[k].releaseDuration v).toNat = true) :
    serviceVoice cvs v k h s = ((s.timed v k h).silenced k h, 1) := by
  have htimed := (slowest_timed s v k h).trans hr
  obtain ⟨rate, hrate, rfl⟩ := slowestRate_of_slowest htimed
  rw [serviceVoice_of_releasing hrel, hrate, timerOutcome, expired_eq, if_pos hover]

theorem exec_service (s : State) (v : BitVec 16) :
    exec (.service v) s = .next ((visitVoices (fun _ => true) (serviceVoice cvs v) s).1.answer .ok
      (BitVec.ofNat 8 (visitVoices (fun _ => true) (serviceVoice cvs v) s).2)) := rfl

/-- Settles O59: the timer of each voice where the voices share no operator, then the SERVICE of a single voice. -/
theorem releaseExpiry : Obligations.ReleaseExpiry := by
  refine ⟨fun s v hdisjoint => ⟨_, exec_service s v, fun k h r hk hrel hr => ?_⟩, ?_⟩
  · rw [answer_slot]
    exact service_frees s v hdisjoint hk hrel hr
  rintro s v k h _ _ r _ hk hfree hrel ha rfl rfl hr hover rfl
  refine ⟨_, _, rfl, rfl, ?_⟩
  have hvisit : visitVoices (fun _ => true) (serviceVoice cvs v) s = ((s.timed v k h).silenced k h, 1) := by
    rw [visitVoices_eq_boundVoices (ownSlot_serviceVoice v), boundVoices_single hk hfree]
    simp only [List.foldl_cons, List.foldl_nil, serviceVoice_over hrel hr hover, Nat.zero_add]
  rw [← lfoDue_eq]
  rw [exec_service, hvisit, silenced_timed ha]
  rfl

end Sys2Proof.ReleaseExpiry
end

section
/-! ALL_SOUND_OFF and PROGRAM: the forced silence of each voice in slot order (R170, R176, R201, R222). -/

namespace Sys2Proof.SilencedVoices

open Sys2Proof.Machine Sys2Proof.CommandMoves Sys2Proof.Visits Sys2Proof.PitchBend Sys2Proof.VoiceMoves

/-- The voices of MIDI channel `m` silenced, each completely before the next (R170, R176). -/
def silencedAll (s : State) (m : MidiId) : State :=
  (voicesOf s m (fun _ => true)).foldl (fun u kh => u.silenced kh.1 kh.2) s

theorem forVoices_forceSilence (s : State) (m : MidiId) : forVoices m (forceSilence cvs) s = silencedAll s m := by
  rw [forVoices, visit_voicesOf (ofChannel_iff m) (ownSlot_forceSilence 0)]
  simp only [forceSilence_eq, silencedAll]

theorem patch_silencedAll (s : State) (m : MidiId) : (silencedAll s m).patch = s.patch := by
  have hfold : ∀ (l : List (SlotId × Handle)) (u : State),
      (l.foldl (fun u kh => u.silenced kh.1 kh.2) u).patch = u.patch := by
    intro l
    induction l with
    | nil => intro u; rfl
    | cons kh l ih => intro u; rw [List.foldl_cons, ih, patch_silenced]
  exact hfold _ s

/-- A value operand in range (R86). -/
theorem sevenBit_eq {c : Byte} (hc : c.toNat ≤ 127) : sevenBit c = some (c.setWidth 7) := by
  rw [sevenBit, if_pos (by omega)]

/-- A controller whose operands are in range (R200). -/
theorem ctrlCommand_eq {a c : Byte} {m : MidiId} {body : MidiId → BitVec 7 → State → Except Code State} {s t : State}
    (ha : a.toNat = m.val) (hc : c.toNat ≤ 127) (e : body m (c.setWidth 7) s = .ok t) :
    ctrlCommand a c body s = .next (t.answer .ok 0) := by
  simp only [ctrlCommand, midiChannel_eq ha, sevenBit_eq hc, e]
  rfl

theorem exec_allSoundOff {a c : Byte} {m : MidiId} (ha : a.toNat = m.val) (hc : c.toNat ≤ 127) (s : State) :
    exec (.ctrlAllSoundOff a c) s = .next ((silencedAll s m).answer .ok 0) := by
  simp only [exec, execCtrlAllSoundOff]
  exact ctrlCommand_eq ha hc (by rw [forVoices_forceSilence])

/-- The PROGRAM selector is the list of types and algorithms of R89. -/
theorem programOf_eq {c : Byte} {ty : ChType} {alg : BitVec 2} (hc : c.toNat ≤ 127)
    (h : ([(.twoOp, 0), (.twoOp, 1), (.fourOp, 0), (.fourOp, 1), (.fourOp, 2), (.fourOp, 3), (.kick, 0), (.snare, 0),
      (.tomTom, 0), (.cymbal, 0), (.hiHat, 0)] : List (ChType × BitVec 2))[c.toNat]? = some (ty, alg)) :
    programOf (c.setWidth 7) = some (ty, alg) := by
  have htable : ∀ v : BitVec 7, programOf v =
      ([(.twoOp, 0), (.twoOp, 1), (.fourOp, 0), (.fourOp, 1), (.fourOp, 2), (.fourOp, 3), (.kick, 0), (.snare, 0),
        (.tomTom, 0), (.cymbal, 0), (.hiHat, 0)] : List (ChType × BitVec 2))[v.toNat]? := by decide
  have hv : (c.setWidth 7).toNat = c.toNat := by
    rw [BitVec.toNat_setWidth]
    omega
  rw [htable, hv, h]

theorem exec_program {a c : Byte} {m : MidiId} {ty : ChType} {alg : BitVec 2} (ha : a.toNat = m.val) (hc : c.toNat ≤ 127)
    (h : programOf (c.setWidth 7) = some (ty, alg)) (s : State) :
    exec (.ctrlProgram a c) s = .next (State.answer
      { silencedAll s m with patch := s.patch.set m { s.patch[m] with ctype := ty, algorithm := alg } } .ok 0) := by
  simp only [exec, execCtrlProgram]
  refine ctrlCommand_eq ha hc ?_
  simp only [h, forVoices_forceSilence, State.updPatch, patch_silencedAll]

/-- Settles O56: the two commands with any number of voices, and with one. -/
theorem forcedSilence : Obligations.ForcedSilence := by
  refine ⟨?_, ?_⟩
  · rintro s _ a c m ha hc rfl
    exact ⟨exec_allSoundOff ha hc s, fun ty alg h => exec_program ha hc (programOf_eq hc h) s⟩
  · rintro s a c m k h _ ha hc hvoices hheld rfl
    have hone : silencedAll s m = s.silenced k h := by
      rw [silencedAll, hvoices, List.foldl_cons, List.foldl_nil]
    have hsilenced : s.silenced k h = State.sends _ _ := if_pos hheld
    refine ⟨_, _, rfl, rfl, ?_, fun ty alg hty => ?_⟩
    · rw [exec_allSoundOff ha hc, hone, hsilenced]
      rfl
    · rw [exec_program ha hc (programOf_eq hc hty), hone, hsilenced]
      rfl

end Sys2Proof.SilencedVoices
end

section
/-! The attenuation model (R175). -/

namespace Sys2Proof.Attenuation

open Sys2Proof.Machine

/-- The level of an operator before the channel's volume: the template's, less the part of its velocity range that the
velocity leaves out (R175). -/
def velocityLevel (T : Template) (vel : BitVec 7) : Nat :=
  T.level.toNat - T.level.toNat * T.velSens.toNat / 63 + vel.toNat / 2 * (T.level.toNat * T.velSens.toNat / 63) / 63

theorem attenuation_eq (T : Template) (vel : BitVec 7) (vol : BitVec 6) (car : Bool) :
    attenuation T vel vol car = 63 - (if car then velocityLevel T vel * vol.toNat / 63 else velocityLevel T vel) := rfl

/-- A part `a` in 63 of a number is at most the number. -/
theorem part_le {a : Nat} (b : Nat) (ha : a ≤ 63) : a * b / 63 ≤ b :=
  Nat.div_le_of_le_mul (Nat.mul_le_mul_right b ha)

theorem toNat_le_63 (x : BitVec 6) : x.toNat ≤ 63 := by omega

theorem velocityLevel_le (T : Template) (vel : BitVec 7) : velocityLevel T vel ≤ T.level.toNat := by
  have hrange : T.level.toNat * T.velSens.toNat / 63 ≤ T.level.toNat :=
    Nat.mul_comm T.velSens.toNat _ ▸ part_le _ (toNat_le_63 T.velSens)
  have hcontrib := part_le (a := vel.toNat / 2) (T.level.toNat * T.velSens.toNat / 63) (by omega)
  simp only [velocityLevel]
  omega

theorem velocityLevel_mono (T : Template) {vel vel' : BitVec 7} (h : vel.toNat ≤ vel'.toNat) :
    velocityLevel T vel ≤ velocityLevel T vel' :=
  Nat.add_le_add_left (Nat.div_le_div_right (Nat.mul_le_mul_right _ (Nat.div_le_div_right h))) _

theorem volume_le (level : Nat) (vol : BitVec 6) : level * vol.toNat / 63 ≤ level :=
  Nat.mul_comm vol.toNat level ▸ part_le level (toNat_le_63 vol)

/-- The least attenuation is that of the template's level (R175). -/
theorem level_le_attenuation (T : Template) (vel : BitVec 7) (vol : BitVec 6) (car : Bool) :
    63 - T.level.toNat ≤ attenuation T vel vol car := by
  have hlevel := velocityLevel_le T vel
  have hvolume := volume_le (velocityLevel T vel) vol
  rw [attenuation_eq]
  split <;> omega

theorem attenuation_velocity (T : Template) {vel vel' : BitVec 7} (vol : BitVec 6) (car : Bool)
    (h : vel.toNat ≤ vel'.toNat) : attenuation T vel' vol car ≤ attenuation T vel vol car := by
  have hlevel := velocityLevel_mono T h
  rw [attenuation_eq, attenuation_eq]
  cases car with
  | false => exact Nat.sub_le_sub_left hlevel 63
  | true => exact Nat.sub_le_sub_left (Nat.div_le_div_right (Nat.mul_le_mul_right _ hlevel)) 63

theorem attenuation_volume (T : Template) (vel : BitVec 7) {vol vol' : BitVec 6} (car : Bool)
    (h : vol.toNat ≤ vol'.toNat) : attenuation T vel vol' car ≤ attenuation T vel vol car := by
  rw [attenuation_eq, attenuation_eq]
  cases car with
  | false => exact le_rfl
  | true => exact Nat.sub_le_sub_left (Nat.div_le_div_right (Nat.mul_le_mul_left _ h)) 63

/-- At volume 0 a carrier is silent, and at volume 63 it is as loud as without a volume (R175). -/
theorem attenuation_ends (T : Template) (vel : BitVec 7) :
    attenuation T vel 0 true = 63 ∧ attenuation T vel 63 true = attenuation T vel 63 false := by
  have hfull : velocityLevel T vel * 63 / 63 = velocityLevel T vel := Nat.mul_div_cancel _ (by decide)
  refine ⟨by simp [attenuation_eq], ?_⟩
  rw [attenuation_eq, attenuation_eq, if_pos rfl, if_neg Bool.false_ne_true]
  exact congrArg (63 - ·) hfull

/-- `Atten` is the formula, at the voice's template, velocity and volume (R175). -/
theorem atten_eq (s : State) (k : SlotId) (h : Handle) (i : Fin 4) :
    atten cvs s k h i = attenuation s.patch[s.slot[k].midiCh].op[i] s.slot[k].velocity s.patch[s.slot[k].midiCh].volume
      (opType cvs s h i.val = .carrier) := by
  simp only [atten, attenuation, decide_eq_true_eq]

/-- Settles O49: range, monotonicity, the two ends of the volume, and `Atten`. -/
theorem attenuationLaw : Obligations.AttenuationLaw := by
  intro T vel vol car
  obtain ⟨hsilent, hfull⟩ := attenuation_ends T vel
  refine ⟨level_le_attenuation .., Nat.sub_le .., fun _ h => attenuation_velocity T vol car h,
    fun _ h => attenuation_volume T vel car h, hsilent, hfull, ?_⟩
  rintro s k h i rfl rfl rfl hcar
  rw [atten_eq]
  congr 1
  simp only [hcar, Bool.decide_eq_true]

end Sys2Proof.Attenuation
end

section
/-! ALGORITHM: the connection bits of each voice, then its attenuations (R147, R170, R175, R203). -/

namespace Sys2Proof.AlgorithmVoices

open Sys2Proof.Machine Sys2Proof.CommandMoves Sys2Proof.Visits Sys2Proof.OperatorRuns Sys2Proof.Setters
  Sys2Proof.VoiceMoves Sys2Proof.SilencedVoices Sys2Proof.Attenuation

/-! ### The attenuations of a voice (R175) -/

/-- The attenuation of an operator. -/
def putLevel (x : BitVec 6) (o : Oper) : Oper := { o with tl := x }

/-- The one write of an operator's attenuation (R97). -/
def levelWrites (n : OperId) (o : Oper) : List RegVal := [(opReg n 0x40, o.levelByte cvs)]

theorem attenuate_eq (s : State) (ts : List (OperId × BitVec 6)) : s.attenuate ts = operRun putLevel levelWrites s ts := by
  simp only [State.attenuate, operRun, List.map_eq_flatMap]
  rfl

/-- The operator of index `i` of a voice, with its attenuation. -/
def voiceTarget (s : State) (k : SlotId) (h : Handle) (i : Fin 4) : Option (OperId × BitVec 6) :=
  ((opsOf cvs s h)[i.val]?).map (fun n => (n, voiceAttenuation s k h i))

theorem voiceTargets_eq (s : State) (k : SlotId) (h : Handle) :
    voiceTargets s k h = (opIndices cvs s h).filterMap (voiceTarget s k h) := rfl

theorem carriers_congr {s t : State} (hc : t.ctype = s.ctype) (hx : t.chan = s.chan) (h : Handle) :
    carriers cvs t h = carriers cvs s h := by
  simp only [carriers, ctypeOf_congr hc, hx]

/-- The type of an operator depends on the channel types and the connection bits alone (R148). -/
theorem opType_congr {s t : State} (hc : t.ctype = s.ctype) (hx : t.chan = s.chan) (h : Handle) (i : Nat) :
    opType cvs t h i = opType cvs s h i := by
  rw [opType, opType, opCount, opCount, opsOf_congr hc, carriers_congr hc hx]

theorem voiceTarget_congr {s t : State} (h : SameVoices s t) (k : SlotId) (g : Handle) (i : Fin 4) :
    voiceTarget t k g i = voiceTarget s k g i := by
  simp only [voiceTarget, voiceAttenuation, h.patch, h.slot, opsOf_congr h.ctype, opType_congr h.ctype h.chan]

theorem atten_lt (s : State) (k : SlotId) (h : Handle) (i : Fin 4) : atten cvs s k h i < 64 := by
  simp only [atten]
  omega

/-- The computed attenuation of one operator of a voice on a held handle (R175). -/
theorem setAtten_eq {s : State} {h : Handle} (ha : s.allocd[h] = true) (k : SlotId) (i : Fin 4) :
    setAtten cvs k h i s = operRun putLevel levelWrites s (voiceTarget s k h i).toList := by
  rw [setAtten, voiceTarget]
  cases hn : (opsOf cvs s h)[i.val]? with
  | none =>
    rw [attempt_error (c := .outOfRange) (by simp only [setOp, ha, hn, if_true])]
    exact (operRun_nil ..).symm
  | some n =>
    rw [attempt_ok (setOp_ok_iff.2 ⟨ha, atten_lt s k h i, n, hn, rfl⟩)]
    simp only [Option.map_some, Option.toList_some, operRun_single, voiceAttenuation, atten_eq]
    rfl

theorem forOpIndices_setAtten {s : State} {h : Handle} (ha : s.allocd[h] = true) (k : SlotId) :
    forOpIndices cvs h (fun i u => setAtten cvs k h i u) s = s.attenuate (voiceTargets s k h) := by
  rw [attenuate_eq, voiceTargets_eq]
  refine foldl_eq_operRun (put := putLevel) (writes := levelWrites) (fun _ _ _ _ => rfl) (fun i u hu => ?_) _
  rw [← voiceTarget_congr hu]
  exact setAtten_eq (hu.allocd ▸ ha) k i

/-- Of a handle that is not allocated no attenuation is written (R311). -/
theorem forOpIndices_setAtten_refused {s : State} {h : Handle} (ha : s.allocd[h] = false) (k : SlotId) :
    forOpIndices cvs h (fun i u => setAtten cvs k h i u) s = s := by
  have hrefused : ∀ i : Fin 4, setAtten cvs k h i s = s := fun i =>
    attempt_error (HandleCommands.setOp_needs .tl i.val _ h s ha)
  simp only [forOpIndices]
  induction opIndices cvs s h with
  | nil => rfl
  | cons i l ih => rw [List.foldl_cons, hrefused, ih]

/-! ### The connection bits of a voice (R147) -/

theorem lowBit (alg : BitVec 2) : BitVec.ofNat 1 alg.toNat = alg.extractLsb' 0 1 := by
  revert alg
  decide

theorem highBit (alg : BitVec 2) : BitVec.ofNat 1 (alg.toNat / 2) = alg.extractLsb' 1 1 := by
  revert alg
  decide

theorem connected_two {s : State} {h : Handle} (ht : ctypeOf s h = .twoOp ∨ ctypeOf s h = .kick) (alg : BitVec 2) :
    s.connected h alg =
      if alg.toNat < 2 then s.connect [physChan cvs h] (fun x => { x with cnt := alg.extractLsb' 0 1 }) else s := by
  rcases ht with ht | ht <;> simp only [State.connected, ht]

theorem connected_four {s : State} {h : Handle} (ht : ctypeOf s h = .fourOp) (alg : BitVec 2) :
    s.connected h alg = (s.connect [physChan cvs h] (fun x => { x with cnt := alg.extractLsb' 1 1 })).connect
      [secondary (physChan cvs h)] (fun x => { x with cnt := alg.extractLsb' 0 1 }) := by
  simp only [State.connected, ht]
  rfl

/-- SetAlgorithm for a voice on a held handle: refused, and skipped, where its type has no such algorithm (R147, R203). -/
theorem attempt_setAlgorithm {s : State} {h : Handle} (ha : s.allocd[h] = true) (alg : BitVec 2) :
    attempt (setAlgorithm cvs h alg.toNat) s = s.connected h alg := by
  have htwo (ht : ctypeOf s h = .twoOp ∨ ctypeOf s h = .kick) :
      attempt (setAlgorithm cvs h alg.toNat) s = s.connected h alg := by
    rw [connected_two ht, ← lowBit, attempt, setAlgorithm_two ha ht]
    by_cases hv : alg.toNat < 2
    · rw [if_pos hv, if_pos hv]
    · rw [if_neg hv, if_neg hv]
  cases ht : ctypeOf s h with
  | twoOp => exact htwo (.inl ht)
  | kick => exact htwo (.inr ht)
  | fourOp =>
    rw [connected_four ht, ← lowBit, ← highBit, attempt, setAlgorithm_four ha ht, if_pos alg.isLt]
  | null | snare | tomTom | cymbal | hiHat =>
    simp only [attempt, setAlgorithm, State.connected, ha, ht, if_true]

/-! ### Every voice of the channel (R170, R203) -/

theorem frame_connected (s : State) (h : Handle) (alg : BitVec 2) : frame (s.connected h alg) = frame s := by
  unfold State.connected
  split
  iterate 2
    split
    · exact frame_connect ..
    · rfl
  · simp only [frame_connect]
  all_goals rfl

/-- One voice's part of ALGORITHM, as the command makes it (R203, R311). -/
theorem algorithmVoice_eq (alg : BitVec 2) (k : SlotId) (h : Handle) (s : State) :
    forOpIndices cvs h (fun i u => setAtten cvs k h i u) (attempt (setAlgorithm cvs h alg.toNat) s) =
      s.algorithmVoice alg k h := by
  unfold State.algorithmVoice
  split
  · next ha =>
    have hallocd : (s.connected h alg).allocd = s.allocd := congrArg Frame.allocd (frame_connected s h alg)
    rw [attempt_setAlgorithm ha, forOpIndices_setAtten (hallocd ▸ ha)]
  · next ha =>
    rw [Bool.not_eq_true] at ha
    rw [attempt_error (HandleCommands.setAlgorithm_needs alg.toNat h s ha), forOpIndices_setAtten_refused ha]

theorem frame_algorithmVoice (alg : BitVec 2) (s : State) (k : SlotId) (h : Handle) :
    frame (s.algorithmVoice alg k h) = frame s := by
  unfold State.algorithmVoice
  split
  · exact frame_connected s h alg
  · rfl

/-- The operands of ALGORITHM select the algorithm that its statement names (R87, R203). -/
theorem algorithmOf_eq {ty : ChType} {c : Byte} {alg : BitVec 2}
    (h : ((ty = .twoOp ∨ ty = .kick) ∧ alg = (0 : BitVec 1) ++ c.extractLsb' 6 1)
      ∨ (ty = .fourOp ∧ alg = c.extractLsb' 5 2)) :
    algorithmOf ty (c.setWidth 7) = some alg.toNat := by
  have htwo : ∀ c : Byte, scaled 1 (c.setWidth 7) = ((0 : BitVec 1) ++ c.extractLsb' 6 1 : BitVec 2).toNat := by decide
  have hfour : ∀ c : Byte, scaled 2 (c.setWidth 7) = (c.extractLsb' 5 2 : BitVec 2).toNat := by decide
  obtain ⟨rfl | rfl, rfl⟩ | ⟨rfl, rfl⟩ := h
  · rw [algorithmOf, htwo]
  · rw [algorithmOf, htwo]
  · rw [algorithmOf, hfour]

theorem exec_algorithm {a c : Byte} {m : MidiId} {alg : BitVec 2} {s : State} (ha : a.toNat = m.val) (hc : c.toNat ≤ 127)
    (halg : algorithmOf s.patch[m].ctype (c.setWidth 7) = some alg.toNat) :
    exec (.ctrlAlgorithm a c) s = .next (((voicesOf s m (fun _ => true)).foldl
      (fun (u : State) (kh : SlotId × Handle) => u.algorithmVoice alg kh.1 kh.2)
      (s.updPatch m (fun P => { P with algorithm := alg }))).answer .ok 0) := by
  have hown : OwnSlot (fun k h t => (t.algorithmVoice alg k h, 0)) :=
    ownSlot_of_frame fun k h t => frame_algorithmVoice alg t k h
  simp only [exec, execCtrlAlgorithm]
  refine ctrlCommand_eq ha hc ?_
  simp only [halg, algorithmVoice_eq, forVoices, visit_voicesOf (ofChannel_iff m) hown, BitVec.ofNat_toNat,
    BitVec.setWidth_eq]
  rfl

/-! ### One voice -/

theorem algorithmVoice_held {s : State} {h : Handle} (ha : s.allocd[h] = true) (alg : BitVec 2) (k : SlotId) :
    s.algorithmVoice alg k h = (s.connected h alg).attenuate (voiceTargets (s.connected h alg) k h) := if_pos ha

theorem attenTargets_single {s t : State} {m : MidiId} {k : SlotId} {h : Handle} (hslot : t.slot = s.slot)
    (hallocd : t.allocd = s.allocd) (hvoices : voicesOf s m (fun _ => true) = [(k, h)]) (ha : s.allocd[h] = true) :
    attenTargets t m (fun _ _ => true) = voiceTargets t k h := by
  have htvoices : voicesOf t m (fun _ => true) = [(k, h)] := by
    rw [PitchBend.voicesOf_eq, PitchBend.voiceAt_congr hslot, ← PitchBend.voicesOf_eq, hvoices]
  simp only [attenTargets, htvoices, List.flatMap_cons, List.flatMap_nil, List.append_nil, hallocd, ha, if_true]
  rfl

theorem extract_highBit (c : Byte) : (c.extractLsb' 5 2 : BitVec 2).extractLsb' 1 1 = c.extractLsb' 6 1 := by
  revert c
  decide

theorem extract_lowBit (c : Byte) : (c.extractLsb' 5 2 : BitVec 2).extractLsb' 0 1 = c.extractLsb' 5 1 := by
  revert c
  decide

theorem oneBit_algorithm (c : Byte) : ((0 : BitVec 1) ++ c.extractLsb' 6 1 : BitVec 2).toNat < 2
    ∧ ((0 : BitVec 1) ++ c.extractLsb' 6 1 : BitVec 2).extractLsb' 0 1 = c.extractLsb' 6 1 := by
  revert c
  decide

/-- Settles O54: the command with any number of voices, and with one of the patch's type. -/
theorem algorithmController : Obligations.AlgorithmController := by
  refine ⟨?_, ?_⟩
  · rintro s _ a c m _ alg ha hc rfl halg rfl
    exact exec_algorithm ha hc (algorithmOf_eq halg)
  · rintro s a c m _ k h _ ha hc rfl hvoices hheld hty rfl
    refine ⟨fun htwo => ⟨_, _, rfl, rfl, ?_⟩, fun hfour => ⟨_, _, _, rfl, rfl, rfl, ?_⟩⟩
    · obtain ⟨hlt, hbit⟩ := oneBit_algorithm c
      rw [exec_algorithm ha hc (algorithmOf_eq (.inl ⟨htwo, rfl⟩)), hvoices, List.foldl_cons, List.foldl_nil,
        attenTargets_single ?_ ?_ hvoices hheld, algorithmVoice_held (s := s.updPatch m _) hheld,
        connected_two (s := s.updPatch m _) (show _ from hty ▸ htwo), if_pos hlt, hbit]
      all_goals rfl
    · rw [exec_algorithm ha hc (algorithmOf_eq (.inr ⟨hfour, rfl⟩)), hvoices, List.foldl_cons, List.foldl_nil,
        attenTargets_single ?_ ?_ hvoices hheld, algorithmVoice_held (s := s.updPatch m _) hheld,
        connected_four (s := s.updPatch m _) (hty.trans hfour), connect_pair, extract_highBit, extract_lowBit]
      all_goals rfl

end Sys2Proof.AlgorithmVoices
end

section
/-! Step (3) of NOTE_ON, and its refusals (R172, R178, R272). -/

namespace Sys2Proof.ObtainChannel

open Sys2Proof.Machine Sys2Proof.CommandMoves Sys2Proof.Refusals Sys2Proof.PitchBend Sys2Proof.SilencedVoices

section Steal
variable {ty : ChType} {s s1 : State} {h : Handle} {e : Code} {v : SlotId}

theorem allocOrSteal_of_ok (he : allocate cvs ty s = .ok (h, s1)) : allocOrSteal cvs ty s = (some h, s1) := by
  simp only [allocOrSteal, he]

/-- The steal's victim, found in slot order (R178). -/
theorem firstReleasing_eq (hv : s.slot[v].lchan = some h) (hrel : s.slot[v].releasing = true)
    (hfirst : ∀ j : SlotId, j < v → s.slot[j].lchan = none ∨ s.slot[j].releasing = false) : firstReleasing s = some v := by
  rw [firstReleasing, allSlots_eq, ← Fin.find?_eq_find?_finRange, Fin.find?_eq_some_iff]
  refine ⟨by rw [hv, hrel]; rfl, fun j hj => ?_⟩
  rw [Bool.and_eq_false_iff, Option.isSome_eq_false_iff, Option.isNone_iff_eq_none]
  exact hfirst j hj

theorem firstReleasing_none (hnone : ∀ k : SlotId, s.slot[k].lchan = none ∨ s.slot[k].releasing = false) :
    firstReleasing s = none := by
  rw [firstReleasing, List.find?_eq_none]
  intro k _
  obtain hk | hk := hnone k
  · rw [hk]
    exact Bool.false_ne_true
  · rw [hk, Bool.and_false]
    exact Bool.false_ne_true

/-- With nothing to steal no channel is obtained. -/
theorem allocOrSteal_of_none (he : allocate cvs ty s = .error e) (hnone : firstReleasing s = none) :
    allocOrSteal cvs ty s = (none, s) := by
  simp only [allocOrSteal, he, hnone]

/-- One steal, and one retry (R178). -/
theorem allocOrSteal_retry (he : allocate cvs ty s = .error e) (hfound : firstReleasing s = some v)
    (hv : s.slot[v].lchan = some h) :
    (∀ h' s1, allocate cvs ty (s.stolen v h) = .ok (h', s1) → allocOrSteal cvs ty s = (some h', s1))
    ∧ (∀ e', allocate cvs ty (s.stolen v h) = .error e' → allocOrSteal cvs ty s = (none, s.stolen v h)) := by
  refine ⟨fun h' s1 hretry => ?_, fun e' hretry => ?_⟩
  · simp only [allocOrSteal, he, hfound, stealVoice_eq hv, hretry]
  · simp only [allocOrSteal, he, hfound, stealVoice_eq hv, hretry]

end Steal

section NoteOn
variable {a b v : Byte} {s : State}

theorem midiChannel_eq_none (ha : 15 < a.toNat) : midiChannel a = none := dif_neg (by omega)

theorem sevenBit_eq_none (hb : 127 < b.toNat) : sevenBit b = none := if_neg (by omega)

/-- An operand out of range (R86, R172). -/
theorem exec_noteOn_outOfRange (h : 15 < a.toNat ∨ 127 < b.toNat ∨ 127 < v.toNat) :
    exec (.noteOn a b v) s = .next (s.answer .outOfRange 0xFF) := by
  have hnone : midiChannel a = none ∨ sevenBit b = none ∨ sevenBit v = none :=
    h.imp midiChannel_eq_none (Or.imp sevenBit_eq_none sevenBit_eq_none)
  simp only [exec, execNoteOn]
  split
  · rename_i ha hb hv
    rw [ha, hb, hv] at hnone
    simp at hnone
  · rfl

/-- NOTE_ON with its operands in range (R172). -/
theorem exec_noteOn_full {m : MidiId} {note vel : BitVec 7} (ha : midiChannel a = some m) (hb : sevenBit b = some note)
    (hv : sevenBit v = some vel) (hfull : firstFree s = none) :
    exec (.noteOn a b v) s = .next (s.answer .resourceExhausted 0xFF) := by
  simp only [exec, execNoteOn, ha, hb, hv, hfull]
  rfl

theorem exec_noteOn_noChannel {m : MidiId} {note vel : BitVec 7} {k : SlotId} {s1 : State} (ha : midiChannel a = some m)
    (hb : sevenBit b = some note) (hv : sevenBit v = some vel) (hk : firstFree s = some k)
    (hnone : allocOrSteal cvs s.patch[m].ctype s = (none, s1)) :
    exec (.noteOn a b v) s = .next (s1.answer .resourceExhausted 0xFF) := by
  simp only [exec, execNoteOn, ha, hb, hv, hk, hnone]
  rfl

theorem exec_noteOn_ok {m : MidiId} {note vel : BitVec 7} {k : SlotId} {h : Handle} {s1 : State}
    (ha : midiChannel a = some m) (hb : sevenBit b = some note) (hv : sevenBit v = some vel) (hk : firstFree s = some k)
    (hsome : allocOrSteal cvs s.patch[m].ctype s = (some h, s1)) :
    exec (.noteOn a b v) s = .next ((startVoice cvs k m note vel h s1).answer .ok (BitVec.ofNat 8 k.val)) := by
  simp only [exec, execNoteOn, ha, hb, hv, hk, hsome]
  rfl

theorem firstFree_eq_none (hfull : ∀ k : SlotId, s.slot[k].lchan ≠ none) : firstFree s = none := by
  rw [firstFree, List.find?_eq_none]
  intro k _
  rw [Option.isNone_iff_eq_none]
  exact hfull k

theorem exists_firstFree (hfree : ∃ k : SlotId, s.slot[k].lchan = none) : ∃ k, firstFree s = some k := by
  obtain ⟨k, hk⟩ := hfree
  rw [← Option.ne_none_iff_exists', firstFree, ne_eq, List.find?_eq_none]
  exact fun hall => hall k (Visits.mem_allSlots k) (by rw [hk]; rfl)

/-- The lowest Free slot (R172). -/
theorem firstFree_eq {k : SlotId} (hk : s.slot[k].lchan = none) (hfirst : ∀ j : SlotId, j < k → s.slot[j].lchan ≠ none) :
    firstFree s = some k := by
  rw [firstFree, allSlots_eq, ← Fin.find?_eq_find?_finRange, Fin.find?_eq_some_iff]
  refine ⟨by rw [hk]; rfl, fun j hj => ?_⟩
  rw [Option.isNone_eq_false_iff, Option.isSome_iff_ne_none]
  exact hfirst j hj

end NoteOn

/-- Settles O45: the allocation, the steal and its retry; then the three refusals. -/
theorem noteOnObtainsChannel : Obligations.NoteOnObtainsChannel := by
  refine ⟨fun ty s => ⟨fun h s1 he => allocOrSteal_of_ok he, fun e he => ⟨fun hnone => ?_, ?_⟩⟩,
    fun s a b v => ⟨exec_noteOn_outOfRange, fun ha hb hv => ?_⟩⟩
  · exact allocOrSteal_of_none he (firstReleasing_none hnone)
  · exact fun v h hv hrel hfirst => allocOrSteal_retry he (firstReleasing_eq hv hrel hfirst) hv
  · have hm : midiChannel a = some ⟨a.toNat, by omega⟩ := midiChannel_eq rfl
    refine ⟨fun hfull => exec_noteOn_full hm (sevenBit_eq hb) (sevenBit_eq hv) (firstFree_eq_none hfull), ?_⟩
    intro m s1 hma hfree hnone
    obtain ⟨k, hk⟩ := exists_firstFree hfree
    exact exec_noteOn_noChannel (midiChannel_eq hma) (sevenBit_eq hb) (sevenBit_eq hv) hk hnone

end Sys2Proof.ObtainChannel
end

section
/-! NOTE_ON once a channel is obtained: the whole next state, and its register writes in order (R172 to R174, R310). -/

namespace Sys2Proof.StartedVoice

open Sys2Proof.Machine Sys2Proof.CommandMoves Sys2Proof.AllocatorInvariant Sys2Proof.SlotInvariant Sys2Proof.OperatorRuns
  Sys2Proof.PitchBend Sys2Proof.Setters Sys2Proof.Queries Sys2Proof.Refusals Sys2Proof.VoiceMoves Sys2Proof.SilencedVoices
  Sys2Proof.Attenuation Sys2Proof.AlgorithmVoices Sys2Proof.ObtainChannel

/-! ### The operators (R174) -/

/-- An operator's whole new entry. -/
def putEntry (x _ : Oper) : Oper := x

/-- The operator of index `i` of a voice with the entry that its template gives (R174). -/
def programTarget (P : Patch) (vel : BitVec 7) (s : State) (h : Handle) (i : Fin 4) : Option (OperId × Oper) :=
  ((opsOf cvs s h)[i.val]?).map (fun n => (n, programmed P vel i (opType cvs s h i.val = .carrier)))

/-- The operators of a voice with these entries, ascending. -/
def programTargets (P : Patch) (vel : BitVec 7) (s : State) (h : Handle) : List (OperId × Oper) :=
  (opIndices cvs s h).filterMap (programTarget P vel s h)

theorem programOperator_eq_operRun {s : State} {k : SlotId} {m : MidiId} {note vel : BitVec 7} {h : Handle}
    (hk : s.slot[k] = boundSlot m note vel h) (i : Fin 4) :
    programOperator cvs k h i s = operRun putEntry operWrites s (programTarget s.patch[m] vel s h i).toList := by
  rw [programTarget]
  cases hn : (opsOf cvs s h)[i.val]? with
  | none =>
    simp only [programOperator, hn]
    exact (operRun_nil ..).symm
  | some n =>
    rw [programOperator_eq hn, Option.map_some, Option.toList_some, operRun_single]
    simp only [atten_eq, hk]
    rfl

theorem forOpIndices_programOperator {s : State} {k : SlotId} {m : MidiId} {note vel : BitVec 7} {h : Handle}
    (hk : s.slot[k] = boundSlot m note vel h) :
    forOpIndices cvs h (fun i t => programOperator cvs k h i t) s =
      operRun putEntry operWrites s (programTargets s.patch[m] vel s h) := by
  refine foldl_eq_operRun (put := putEntry) (writes := operWrites) (fun _ _ _ _ => rfl) (fun i u hu => ?_) _
  simp only [programOperator_eq_operRun (hu.slot ▸ hk), programTarget, hu.patch, opsOf_congr hu.ctype,
    opType_congr hu.ctype hu.chan]

/-! ### The carriers of a programmed voice (R148) -/

theorem isCarrier_iff (s : State) (h : Handle) (i : Nat) :
    opType cvs s h i = .carrier ↔ i < opCount cvs s h ∧ i ∈ carriers cvs s h := by
  unfold opType
  split
  · next hi => simp [Nat.not_lt.2 hi]
  · next hi =>
    split
    · next hc => simp [Nat.lt_of_not_le hi, hc]
    · next hc => simp [hc]

theorem programmed_congr {p q : Prop} [Decidable p] [Decidable q] (h : p ↔ q) (P : Patch) (vel : BitVec 7) (i : Fin 4) :
    programmed P vel i p = programmed P vel i q :=
  congrArg (programmed P vel i) (decide_eq_decide.2 h)

/-! ### The channel, the frequency and the key (R129, R130, R173) -/

/-- The state after step (5) of NOTE_ON: the slot bound, and the channel's output register written (R172, R173). -/
def prepared (s : State) (k : SlotId) (m : MidiId) (note vel : BitVec 7) (h : Handle) : State :=
  programChannel cvs h s.patch[m] (s.updSlot k (fun _ => boundSlot m note vel h))

/-- Steps (7) and (8) of NOTE_ON: frequency and key (R172). -/
def sounded (m : MidiId) (note : BitVec 7) (h : Handle) (w : State) : State :=
  attempt (setKey cvs true h) (attempt (setFreq cvs h (noteFreq cvs note w.patch[m].bendCents.toInt)) w)

theorem sounded_eq {w : State} {h : Handle} (ha : w.allocd[h] = true) (m : MidiId) (note : BitVec 7) :
    sounded m note h w =
      writeKey cvs true h (writeFreq cvs (physChan cvs h) (noteFreq cvs note w.patch[m].bendCents.toInt) w) := by
  have hallocd (f : Nat) : (writeFreq cvs (physChan cvs h) f w).allocd = w.allocd := by
    rw [writeFreq_eq]
    rfl
  rw [sounded, attempt_setFreq, if_pos ha]
  exact attempt_ok (setKey_ok_iff.2 ⟨(congrArg (·[h]) (hallocd _)).trans ha, rfl⟩)

section Prepared
variable {s : State} {k : SlotId} {m : MidiId} {note vel : BitVec 7} {h : Handle}

theorem frame_prepared : frame (prepared s k m note vel h) = frame (s.updSlot k (fun _ => boundSlot m note vel h)) :=
  frame_programChannel ..

theorem slot_prepared : (prepared s k m note vel h).slot = s.slot.set k (boundSlot m note vel h) :=
  congrArg Frame.slot frame_prepared

theorem patch_prepared : (prepared s k m note vel h).patch = s.patch := congrArg Frame.patch frame_prepared

theorem allocd_prepared : (prepared s k m note vel h).allocd = s.allocd := congrArg Frame.allocd frame_prepared

/-- Steps (4) to (8) of NOTE_ON on a held handle (R172). -/
theorem startVoice_eq (ha : s.allocd[h] = true) :
    startVoice cvs k m note vel h s =
      writeKey cvs true h (writeFreq cvs (physChan cvs h) (noteFreq cvs note s.patch[m].bendCents.toInt)
        (operRun putEntry operWrites (prepared s k m note vel h)
          (programTargets s.patch[m] vel (prepared s k m note vel h) h))) := by
  have hsteps : startVoice cvs k m note vel h s =
      sounded m note h (forOpIndices cvs h (fun i t => programOperator cvs k h i t) (prepared s k m note vel h)) := rfl
  have hslot : (prepared s k m note vel h).slot[k] = boundSlot m note vel h := by
    rw [slot_prepared, get_set, if_pos rfl]
  have hpatch : (operRun putEntry operWrites (prepared s k m note vel h)
      (programTargets s.patch[m] vel (prepared s k m note vel h) h)).patch = s.patch := patch_prepared
  have hheld : (operRun putEntry operWrites (prepared s k m note vel h)
      (programTargets s.patch[m] vel (prepared s k m note vel h) h)).allocd[h] = true :=
    (congrArg (·[h]) allocd_prepared).trans ha
  rw [hsteps, forOpIndices_programOperator hslot]
  simp only [patch_prepared]
  rw [sounded_eq hheld]
  simp only [hpatch]

/-- Frequency and key of a physical channel, after the operators `ts` (R129, R130, R174). -/
theorem sounded_phys (u : State) (c : PhysId) (f : Nat) (ts : List (OperId × Oper)) :
    writeKey cvs true (physHandle c) (writeFreq cvs c f (operRun putEntry operWrites u ts)) =
      State.sends { u with
        chan := u.chan.set c ((u.chan[c].tuned f).keyed 1), oper := ts.foldl (fun o q => o.set q.1 q.2) u.oper }
      (ts.flatMap (fun q => operWrites q.1 q.2) ++ freqWrites c (u.chan[c].tuned f)
        ++ [(chReg c 0xB0, ((u.chan[c].tuned f).keyed 1).keyBlockByte cvs)]) := by
  rw [writeKey_phys, writeFreq_eq]
  simp only [operRun, sends_updChan, sends_sends, sends_chan, updChan_chan]
  simp only [State.updChan, get_set, if_true, Vector.set_set]
  rfl

/-- Frequency and key of a percussion role, whose key bit stands in 0:BD (R129, R130, R310). -/
theorem sounded_role (u : State) (r : RoleId) (c : PhysId) (f : Nat) (ts : List (OperId × Oper)) :
    writeKey cvs true (roleHandle r) (writeFreq cvs c f (operRun putEntry operWrites u ts)) =
      State.sends { u with
        chan := u.chan.set c (u.chan[c].tuned f), oper := ts.foldl (fun o q => o.set q.1 q.2) u.oper
        percKey := u.percKey.set r true }
      (ts.flatMap (fun q => operWrites q.1 q.2) ++ freqWrites c (u.chan[c].tuned f)
        ++ [((0, 0xBD), percussionByte cvs u.percEnabled (u.percKey.set r true))]) := by
  have hkey (w : State) (ws : List RegVal) : writeKey cvs true (roleHandle r) (w.sends ws) =
      State.sends { w with percKey := w.percKey.set r true }
        (ws ++ [((0, 0xBD), percussionByte cvs w.percEnabled (w.percKey.set r true))]) := by
    rw [writeKey_role, ← sends_sends]
    rfl
  rw [writeFreq_eq]
  simp only [operRun, sends_updChan, sends_sends, sends_chan, hkey]
  rfl

end Prepared

/-! ### The operators of a voice by their number (R93, R174) -/

section Targets
variable {P : Patch} {vel : BitVec 7} {u : State} {h : Handle} {n0 n1 n2 n3 : OperId} {p : PhysId}

/-- The carriers of a voice with two operators (R148). -/
theorem carrier_two (ht : ctypeOf u h = .twoOp ∨ ctypeOf u h = .kick) :
    (opType cvs u h 0 = .carrier ↔ u.chan[physChan cvs h].cnt = 1) ∧ (opType cvs u h 1 = .carrier ↔ True) := by
  have hcount : opCount cvs u h = 2 := by
    rw [opCount_eq]
    rcases ht with ht | ht <;> rw [ht] <;> rfl
  simp only [isCarrier_iff, hcount, carriers_two ht]
  split
  · next hc => exact ⟨⟨fun _ => hc, fun _ => by decide⟩, by decide⟩
  · next hc => exact ⟨⟨fun h => absurd h (by decide), fun h => absurd h hc⟩, by decide⟩

/-- The carriers of a voice with four operators (R148). -/
theorem carrier_four (ht : ctypeOf u h = .fourOp) {alg : BitVec 2}
    (hhigh : u.chan[physChan cvs h].cnt = alg.extractLsb' 1 1)
    (hlow : u.chan[secondary (physChan cvs h)].cnt = alg.extractLsb' 0 1) :
    (opType cvs u h 0 = .carrier ↔ alg = 2 ∨ alg = 3) ∧ (opType cvs u h 1 = .carrier ↔ alg = 1)
      ∧ (opType cvs u h 2 = .carrier ↔ alg = 3) ∧ (opType cvs u h 3 = .carrier ↔ True) := by
  have hcount : opCount cvs u h = 4 := by rw [opCount_eq, ht]; rfl
  have hmem := fun i : Fin 4 => mem_carriers_four ht i
  simp only [hhigh, hlow] at hmem
  have htable : ∀ alg : BitVec 2, (alg.extractLsb' 1 1 = (1 : BitVec 1) ↔ alg = 2 ∨ alg = 3)
      ∧ (alg.extractLsb' 1 1 = (0 : BitVec 1) ∧ alg.extractLsb' 0 1 = (1 : BitVec 1) ↔ alg = 1)
      ∧ (alg.extractLsb' 1 1 = (1 : BitVec 1) ∧ alg.extractLsb' 0 1 = (1 : BitVec 1) ↔ alg = 3) := by decide
  obtain ⟨h0, h1, h2⟩ := htable alg
  have hcarrier (i : Fin 4) : opType cvs u h i.val = .carrier ↔ i.val ∈ carriers cvs u h := by
    rw [isCarrier_iff, hcount]
    exact and_iff_right i.isLt
  refine ⟨?_, ?_, ?_, ?_⟩
  · rw [← h0]
    exact (hcarrier 0).trans ((hmem 0).trans (by simp))
  · rw [← h1]
    exact (hcarrier 1).trans ((hmem 1).trans (by simp))
  · rw [← h2]
    exact (hcarrier 2).trans ((hmem 2).trans (by simp))
  · exact (hcarrier 3).trans ((hmem 3).trans (by simp))

/-- The one operator of a role is a carrier (R148). -/
theorem carrier_one (ht : (ctypeOf u h).singleOp = true) (hops : opsOf cvs u h = [n0]) :
    opType cvs u h 0 = .carrier ↔ True := by
  rw [isCarrier_iff, opCount, hops, carriers_single ht]
  simp

/-! ### The operators of a voice by their number, with their entries (R93, R174) -/

theorem programTargets_one (ht : (ctypeOf u h).singleOp = true) (hops : opsOf cvs u h = [n0]) :
    programTargets P vel u h = [(n0, programmed P vel 0 true)] := by
  have hentry := programmed_congr (carrier_one ht hops) P vel 0
  simp [programTargets, programTarget, opIndices, opCount, allOpIndices, hops, hentry]

theorem programTargets_two (ht : ctypeOf u h = .twoOp ∨ ctypeOf u h = .kick) (hops : opsOf cvs u h = [n0, n1])
    (hp : physChan cvs h = p) (hcnt : u.chan[p].cnt = P.algorithm.extractLsb' 0 1) :
    programTargets P vel u h =
      [(n0, programmed P vel 0 (P.algorithm.extractLsb' 0 1 = (1 : BitVec 1))), (n1, programmed P vel 1 true)] := by
  subst hp
  obtain ⟨h0, h1⟩ := carrier_two ht
  rw [hcnt] at h0
  have hentry0 := programmed_congr h0 P vel 0
  have hentry1 := programmed_congr h1 P vel 1
  simp [programTargets, programTarget, opIndices, opCount, allOpIndices, hops, hentry0, hentry1]

theorem programTargets_four (ht : ctypeOf u h = .fourOp) (hops : opsOf cvs u h = [n0, n1, n2, n3])
    (hp : physChan cvs h = p) (hhigh : u.chan[p].cnt = P.algorithm.extractLsb' 1 1)
    (hlow : u.chan[secondary p].cnt = P.algorithm.extractLsb' 0 1) :
    programTargets P vel u h = [(n0, programmed P vel 0 (P.algorithm = 2 ∨ P.algorithm = 3)),
      (n1, programmed P vel 1 (P.algorithm = 1)), (n2, programmed P vel 2 (P.algorithm = 3)),
      (n3, programmed P vel 3 true)] := by
  subst hp
  obtain ⟨h0, h1, h2, h3⟩ := carrier_four ht hhigh hlow
  have hentry0 := programmed_congr h0 P vel 0
  have hentry1 := programmed_congr h1 P vel 1
  have hentry2 := programmed_congr h2 P vel 2
  have hentry3 := programmed_congr h3 P vel 3
  simp [programTargets, programTarget, opIndices, opCount, allOpIndices, hops, hentry0, hentry1, hentry2, hentry3]

end Targets

/-! ### NOTE_ON (R172) -/

/-- The channel that step (3) of NOTE_ON obtains is held, and the patches are as they were (R122, R178). -/
theorem allocOrSteal_some {ty : ChType} {s s1 : State} {h : Handle} (e : allocOrSteal cvs ty s = (some h, s1)) :
    s1.allocd[h] = true ∧ s1.patch = s.patch := by
  obtain ⟨u, hu, ⟨hr, -⟩ | ⟨g, hr, halloc⟩⟩ := allocOrSteal_steps e
  · cases hr
  · cases hr
    refine ⟨by rw [allocd_allocated halloc, get_set, if_pos rfl], (patch_allocated halloc).trans ?_⟩
    obtain rfl | ⟨v, g, -, -, -, rfl⟩ := hu
    · rfl
    · exact patch_stolen ..

/-- An operand that is a 7-bit value (R86). -/
theorem sevenBit_eq_some {x : Byte} {y : BitVec 7} (hxy : x.toNat = y.toNat) : sevenBit x = some y := by
  rw [sevenBit_eq (by omega)]
  congr 1
  apply BitVec.eq_of_toNat_eq
  rw [BitVec.toNat_setWidth]
  omega

/-- NOTE_ON once a channel is obtained, with its operands as the statements give them (R172). -/
theorem exec_noteOn_started {s s1 : State} {a b v : Byte} {m : MidiId} {note vel : BitVec 7} {k : SlotId} {h : Handle}
    (ha : a.toNat = m.val) (hb : b.toNat = note.toNat) (hv : v.toNat = vel.toNat) (hk : s.slot[k].lchan = none)
    (hfirst : ∀ j : SlotId, j < k → s.slot[j].lchan ≠ none)
    (e : allocOrSteal cvs s.patch[m].ctype s = (some h, s1)) :
    exec (.noteOn a b v) s = .next ((startVoice cvs k m note vel h s1).answer .ok (BitVec.ofNat 8 k.val)) := by
  exact exec_noteOn_ok (midiChannel_eq ha) (sevenBit_eq_some hb) (sevenBit_eq_some hv) (firstFree_eq hk hfirst) e

section Started
variable {s u : State} {k : SlotId} {m : MidiId} {note vel : BitVec 7} {x0 x1 : Chan} {f : Nat} {ws : List RegVal}
  {ts : List (OperId × Oper)} {chan : Vector Chan 18}

/-- NOTE_ON's steps (4) to (8) on a physical channel, from the state `u` and the writes `ws` of steps (4) and (5). -/
theorem started_phys {c : PhysId} (ha : s.allocd[physHandle c] = true)
    (hu : prepared s k m note vel (physHandle c) = u.sends ws)
    (hts : programTargets s.patch[m] vel (u.sends ws) (physHandle c) = ts) (hx0 : u.chan[c] = x0)
    (hx1 : x0.tuned (noteFreq cvs note s.patch[m].bendCents.toInt) = x1) (hchan : u.chan.set c (x1.keyed 1) = chan) :
    startVoice cvs k m note vel (physHandle c) s =
      State.sends { u with chan := chan, oper := ts.foldl (fun o q => o.set q.1 q.2) u.oper }
        (ws ++ ts.flatMap (fun q => operWrites q.1 q.2) ++ freqWrites c x1
          ++ [(chReg c 0xB0, (x1.keyed 1).keyBlockByte cvs)]) := by
  subst hx0 hx1 hchan hts
  rw [startVoice_eq ha, hu, physChan_phys, sounded_phys]
  simp only [List.append_assoc]
  rw [← sends_sends _ ws]
  rfl

/-- The same on a percussion role. -/
theorem started_role {r : RoleId} {c : PhysId} (ha : s.allocd[roleHandle r] = true)
    (hu : prepared s k m note vel (roleHandle r) = u.sends ws)
    (hts : programTargets s.patch[m] vel (u.sends ws) (roleHandle r) = ts) (hc : physChan cvs (roleHandle r) = c)
    (hx0 : u.chan[c] = x0) (hx1 : x0.tuned (noteFreq cvs note s.patch[m].bendCents.toInt) = x1)
    (hchan : u.chan.set c x1 = chan) :
    startVoice cvs k m note vel (roleHandle r) s =
      State.sends { u with
          chan := chan, oper := ts.foldl (fun o q => o.set q.1 q.2) u.oper, percKey := u.percKey.set r true }
        (ws ++ ts.flatMap (fun q => operWrites q.1 q.2) ++ freqWrites c x1
          ++ [((0, 0xBD), percussionByte cvs u.percEnabled (u.percKey.set r true))]) := by
  subst hx0 hx1 hchan hts hc
  rw [startVoice_eq ha, hu, sounded_role]
  simp only [List.append_assoc]
  rw [← sends_sends _ ws]
  rfl

end Started

/-! ### The channel's output register (R173) -/

/-- The output register of a channel with two operators, and its connection bit (R173). -/
def outputEntry (P : Patch) (x : Chan) : Chan := { x with out := P.out, fb := P.fb, cnt := P.algorithm.extractLsb' 0 1 }

/-- The state after steps (4) and (5) of NOTE_ON but for the bus: the slot bound, the channel cache changed
(R172, R173). -/
def boundWith (s : State) (k : SlotId) (x : Slot) (chan : Vector Chan 18) : State :=
  { s with slot := s.slot.set k x, chan := chan }

section Prepared
variable {s : State} {k : SlotId} {m : MidiId} {note vel : BitVec 7} {h : Handle} {p : PhysId} {x0 : Chan}

theorem prepared_two (ht : ctypeOf s h = .twoOp ∨ ctypeOf s h = .kick) (hp : physChan cvs h = p)
    (hx0 : outputEntry s.patch[m] s.chan[p] = x0) :
    prepared s k m note vel h =
      (boundWith s k (boundSlot m note vel h) (s.chan.set p x0)).sends [(chReg p 0xC0, x0.outputByte cvs)] := by
  subst hp hx0
  have hbound : ctypeOf (s.updSlot k (fun _ => boundSlot m note vel h)) h = ctypeOf s h := rfl
  have hconnect := connect_one (s.updSlot k (fun _ => boundSlot m note vel h)) (physChan cvs h) (outputEntry s.patch[m])
  rw [connect_single] at hconnect
  refine Eq.trans ?_ hconnect
  rcases ht with ht | ht <;> simp only [prepared, programChannel, hbound, ht] <;> rfl

theorem prepared_four {x0 y : Chan} {c : PhysId} (ht : ctypeOf s h = .fourOp) (hp : physChan cvs h = c)
    (hx0 : { s.chan[c] with
      out := s.patch[m].out, fb := s.patch[m].fb, cnt := s.patch[m].algorithm.extractLsb' 1 1 } = x0)
    (hy : { s.chan[secondary c] with out := s.patch[m].out, cnt := s.patch[m].algorithm.extractLsb' 0 1 } = y) :
    prepared s k m note vel h =
      (boundWith s k (boundSlot m note vel h) ((s.chan.set c x0).set (secondary c) y)).sends
        [(chReg c 0xC0, x0.outputByte cvs), (chReg (secondary c) 0xC0, y.outputByte cvs)] := by
  subst hp hx0 hy
  have hbound : ctypeOf (s.updSlot k (fun _ => boundSlot m note vel h)) h = .fourOp := ht
  rw [prepared, programChannel_fourOp hbound, connect_one, connect_one, connect_pair]
  rfl

theorem prepared_single {x0 : Chan} (ht : (ctypeOf s h).singleOp = true) (hp : physChan cvs h = p)
    (hx0 : { s.chan[p] with out := s.patch[m].out } = x0) :
    prepared s k m note vel h =
      (boundWith s k (boundSlot m note vel h) (s.chan.set p x0)).sends [(chReg p 0xC0, x0.outputByte cvs)] := by
  subst hp hx0
  have hconnect := connect_one (s.updSlot k (fun _ => boundSlot m note vel h)) (physChan cvs h)
    (fun x => { x with out := s.patch[m].out })
  rw [connect_single] at hconnect
  refine Eq.trans ?_ hconnect
  have hbound : ctypeOf (s.updSlot k (fun _ => boundSlot m note vel h)) h = ctypeOf s h := rfl
  cases hty : ctypeOf s h <;> rw [hty] at ht hbound
  case snare | tomTom | cymbal | hiHat => simp only [prepared, programChannel, hbound]
  case null | twoOp | fourOp | kick => exact absurd ht (by decide)

end Prepared

/-- Settles O42: the two operators of a channel that is TwoOp, the second always a carrier. -/
theorem noteOnTwoOp : Obligations.NoteOnTwoOp := by
  intro s s1 a b v m note vel k c ha hb hv hk hfirst e hc
  obtain ⟨hheld, hpatch⟩ := allocOrSteal_some e
  have ht : ctypeOf s1 (physHandle c) = .twoOp := by rw [ctypeOf_phys, hc]; rfl
  have hops : opsOf cvs s1 (physHandle c) = [cvs.chanOps[c].1, cvs.chanOps[c].2] := by rw [opsOf_phys, hc]; rfl
  have hentry : (s1.chan.set c (outputEntry s1.patch[m] s1.chan[c]))[c] = outputEntry s1.patch[m] s1.chan[c] := by
    rw [get_set, if_pos rfl]
  rw [exec_noteOn_started ha hb hv hk hfirst e, ← hpatch]
  refine ⟨_, _, _, _, _, _, _, rfl, rfl, rfl, rfl, rfl, rfl, ?_⟩
  rw [started_phys hheld (prepared_two (.inl ht) (physChan_phys c) rfl)
    (programTargets_two (.inl ht) hops (physChan_phys c) (congrArg Chan.cnt hentry)) hentry rfl (Vector.set_set ..)]
  rfl

/-- Settles O43: both halves of the pair, whose connection bits together are the algorithm. -/
theorem noteOnFourOp : Obligations.NoteOnFourOp := by
  intro s s1 a b v m note vel k c ha hb hv hk hfirst e hc
  obtain ⟨hheld, hpatch⟩ := allocOrSteal_some e
  have ht : ctypeOf s1 (physHandle c) = .fourOp := by rw [ctypeOf_phys, hc]; rfl
  have hops : opsOf cvs s1 (physHandle c) =
      [cvs.chanOps[c].1, cvs.chanOps[c].2, cvs.chanOps[secondary c].1, cvs.chanOps[secondary c].2] := by
    rw [opsOf_phys, hc]
    rfl
  have hne := secondary_ne c
  have hentry (x y : Chan) : ((s1.chan.set c x).set (secondary c) y)[c] = x := by simp [hne]
  have hsecond (x y : Chan) : ((s1.chan.set c x).set (secondary c) y)[secondary c] = y := by rw [get_set, if_pos rfl]
  have hchan (x y z : Chan) :
      ((s1.chan.set c x).set (secondary c) y).set c z = (s1.chan.set c z).set (secondary c) y := by
    rw [Vector.set_comm _ _ hne, Vector.set_set]
  rw [exec_noteOn_started ha hb hv hk hfirst e, ← hpatch]
  refine ⟨_, _, _, _, _, _, _, _, _, _, _, _, rfl, rfl, rfl, rfl, rfl, rfl, rfl, rfl, rfl, rfl, ?_⟩
  rw [started_phys hheld (prepared_four ht (physChan_phys c) rfl rfl)
    (programTargets_four ht hops (physChan_phys c) (congrArg Chan.cnt (hentry _ _)) (congrArg Chan.cnt (hsecond _ _)))
    (hentry _ _) rfl (hchan _ _ _)]
  rfl

/-- The shared channel of each role (R93). -/
theorem roleChan_val : ∀ r : RoleId, cvs.roleChan[r].val = ([6, 7, 8, 8, 7] : List Nat).getD r.val 0 := by decide

/-- Every role but Kick has one operator (R93). -/
theorem singleOp_roleType {r : RoleId} (hr : r ≠ 0) : (roleType r).singleOp = true := by
  revert r
  decide

/-- The operator of a role other than Kick, with any entry `o` (R93). -/
theorem roleOps_single : ∀ r : RoleId, r ≠ 0 → ∃ n : OperId, cvs.roleOps[r] = [n] ∧ ∀ o o0 o1 : Oper,
    ([[(12, o0), (15, o1)], [(16, o)], [(14, o)], [(17, o)], [(13, o)]] : List (List (OperId × Oper))).getD r.val [] =
      [(n, o)]
  | 0, hr => absurd rfl hr
  | 1, _ | 2, _ | 3, _ | 4, _ => ⟨_, rfl, fun _ _ _ => rfl⟩

/-- Settles O44: Kick has two operators and its connection bit, every other role its one operator. -/
theorem noteOnRole : Obligations.NoteOnRole := by
  intro s s1 a b v m note vel k r ha hb hv hk hfirst e
  obtain ⟨hheld, hpatch⟩ := allocOrSteal_some e
  have hentry (x : Chan) : (s1.chan.set cvs.roleChan[r] x)[cvs.roleChan[r]] = x := by rw [get_set, if_pos rfl]
  rw [exec_noteOn_started ha hb hv hk hfirst e, ← hpatch]
  refine ⟨_, cvs.roleChan[r], _, _, _, rfl, roleChan_val r, rfl, rfl, rfl, ?_⟩
  by_cases hr : r = 0
  · subst hr
    have ht : ctypeOf s1 (roleHandle 0) = .kick := ctypeOf_role s1 0
    rw [started_role hheld (prepared_two (.inr ht) (physChan_role 0) rfl)
      (programTargets_two (.inr ht) (opsOf_role _ 0) (physChan_role 0) (congrArg Chan.cnt (hentry _)))
      (physChan_role 0) (hentry _) rfl (Vector.set_set ..)]
    rfl
  · have ht : (ctypeOf s1 (roleHandle r)).singleOp = true := by rw [ctypeOf_role]; exact singleOp_roleType hr
    obtain ⟨n, hn, htargets⟩ := roleOps_single r hr
    rw [if_neg hr, htargets, started_role hheld (prepared_single ht (physChan_role r) rfl)
      (programTargets_one ht ((opsOf_role _ r).trans hn))
      (physChan_role r) (hentry _) rfl (Vector.set_set ..)]
    rfl

end Sys2Proof.StartedVoice
end

section
/-! NOTE_OFF, ALL_NOTES_OFF and SUSTAIN_PEDAL: the key-offs of the voices in slot order, and their flags
(R177, R179, R221, R223). -/

namespace Sys2Proof.ReleasedVoices

open Sys2Proof.Machine Sys2Proof.AllocatorInvariant Sys2Proof.CommandMoves Sys2Proof.Visits Sys2Proof.VoiceMoves
  Sys2Proof.PitchBend Sys2Proof.SilencedVoices Sys2Proof.StartedVoice

/-! ### The key-offs of handles, in order (R131) -/

theorem keyOffWrites_nil (s : State) (key : Vector Bool 5) : keyOffWrites s key [] = [] := rfl

theorem keyOffWrites_phys (s : State) (key : Vector Bool 5) (c : PhysId) (hs : List Handle) :
    keyOffWrites s key (physHandle c :: hs) =
      (chReg c 0xB0, (s.chan[c].keyed 0).keyBlockByte cvs) :: keyOffWrites s key hs := by
  simp only [keyOffWrites, physOrRole_phys]

theorem keyOffWrites_role (s : State) (key : Vector Bool 5) (r : RoleId) (hs : List Handle) :
    keyOffWrites s key (roleHandle r :: hs) =
      ((0, 0xBD), percussionByte cvs s.percEnabled (key.set r false)) :: keyOffWrites s (key.set r false) hs := by
  simp only [keyOffWrites, physOrRole_role]

/-- The writes of key-offs read the percussion mode and, of the channels' cache, all but the key bits. -/
theorem keyOffWrites_congr {t : State} (s : State) (hperc : t.percEnabled = s.percEnabled)
    (hchan : ∀ c : PhysId, t.chan[c].keyed 0 = s.chan[c].keyed 0)
    (key : Vector Bool 5) (hs : List Handle) : keyOffWrites t key hs = keyOffWrites s key hs := by
  induction hs generalizing key with
  | nil => rfl
  | cons h hs ih =>
    obtain ⟨c, rfl⟩ | ⟨r, rfl⟩ := handle_cases h
    · rw [keyOffWrites_phys, keyOffWrites_phys, hchan, ih]
    · rw [keyOffWrites_role, keyOffWrites_role, hperc, ih]

/-- The channels' cache after the key-off of handles (R131). -/
def chansOff (chan : Vector Chan 18) (hs : List Handle) : Vector Chan 18 :=
  Vector.ofFn (fun c => if physHandle c ∈ hs then chan[c].keyed 0 else chan[c])

/-- The key bits of the roles after the key-off of handles (R131). -/
def rolesOff (key : Vector Bool 5) (hs : List Handle) : Vector Bool 5 :=
  Vector.ofFn (fun r => if roleHandle r ∈ hs then false else key[r])

theorem keyedOff_eq (s : State) (hs : List Handle) :
    s.keyedOff hs = State.sends { s with chan := chansOff s.chan hs, percKey := rolesOff s.percKey hs }
      (keyOffWrites s s.percKey hs) := rfl

theorem chansOff_nil (chan : Vector Chan 18) : chansOff chan [] = chan := by
  apply Vector.ext
  simp [chansOff]

theorem rolesOff_nil (key : Vector Bool 5) : rolesOff key [] = key := by
  apply Vector.ext
  simp [rolesOff]

theorem chansOff_phys (chan : Vector Chan 18) (c : PhysId) (hs : List Handle) :
    chansOff chan (physHandle c :: hs) = chansOff (chan.set c (chan[c].keyed 0)) hs := by
  unfold chansOff
  congr 1
  funext d
  simp only [get_set, List.mem_cons, physHandle_inj]
  by_cases hd : d = c
  · subst hd
    simp [Chan.keyed]
  · simp [hd]

theorem chansOff_role (chan : Vector Chan 18) (r : RoleId) (hs : List Handle) :
    chansOff chan (roleHandle r :: hs) = chansOff chan hs := by
  simp [chansOff, physHandle_ne_roleHandle]

theorem roleHandle_inj {q r : RoleId} : roleHandle q = roleHandle r ↔ q = r := by simp [roleHandle, Fin.ext_iff]

theorem rolesOff_role (key : Vector Bool 5) (r : RoleId) (hs : List Handle) :
    rolesOff key (roleHandle r :: hs) = rolesOff (key.set r false) hs := by
  unfold rolesOff
  congr 1
  funext q
  simp only [get_set, List.mem_cons, roleHandle_inj]
  by_cases hq : q = r
  · simp [hq]
  · simp [hq]

theorem rolesOff_phys (key : Vector Bool 5) (c : PhysId) (hs : List Handle) :
    rolesOff key (physHandle c :: hs) = rolesOff key hs := by
  simp [rolesOff, (physHandle_ne_roleHandle c _).symm]

theorem keyedOff_nil (s : State) : s.keyedOff [] = s := by
  rw [keyedOff_eq, chansOff_nil, rolesOff_nil, keyOffWrites_nil, sends_nil]

theorem keyedOff_sends (s : State) (ws : List RegVal) (hs : List Handle) :
    (s.sends ws).keyedOff hs = State.sends { s with chan := chansOff s.chan hs, percKey := rolesOff s.percKey hs }
      (ws ++ keyOffWrites s s.percKey hs) := by
  have hwrites : keyOffWrites (s.sends ws) s.percKey hs = keyOffWrites s s.percKey hs :=
    keyOffWrites_congr (t := s.sends ws) s rfl (fun _ => rfl) _ hs
  rw [← sends_sends, ← hwrites]
  rfl

/-- The key-offs of handles are made one after another (R177). -/
theorem keyedOff_cons (s : State) (h : Handle) (hs : List Handle) :
    s.keyedOff (h :: hs) = (writeKey cvs false h s).keyedOff hs := by
  obtain ⟨c, rfl⟩ | ⟨r, rfl⟩ := handle_cases h
  · have hchan (d : PhysId) : (s.updChan c (fun x => x.keyed 0)).chan[d].keyed 0 = s.chan[d].keyed 0 := by
      rw [updChan_chan, get_set]
      split
      · next hd => rw [hd]; rfl
      · rfl
    have hwrites : keyOffWrites (s.updChan c (fun x => x.keyed 0)) s.percKey hs = keyOffWrites s s.percKey hs :=
      keyOffWrites_congr (t := s.updChan c (fun x => x.keyed 0)) s rfl hchan _ hs
    rw [writeKey_phys, keyedOff_sends, keyedOff_eq, chansOff_phys, rolesOff_phys, keyOffWrites_phys, ← hwrites]
    rfl
  · have hwrites (key : Vector Bool 5) :
        keyOffWrites { s with percKey := s.percKey.set r false } key hs = keyOffWrites s key hs :=
      keyOffWrites_congr (t := { s with percKey := s.percKey.set r false }) s rfl (fun _ => rfl) key hs
    rw [writeKey_role, keyedOff_sends, keyedOff_eq, chansOff_role, rolesOff_role, keyOffWrites_role, hwrites]
    rfl

/-! ### The slots of the voices visited -/

section Visited
variable {m : MidiId} {sel visited : Slot → Bool} {f : Slot → Slot}
  {body body' : SlotId → Handle → State → State}

/-- Visits that agree, in the states that the visits keep, on the slots that they select. -/
theorem visitVoices_congr {P : State → Prop} {n : Nat} {s : State} (hP : ∀ k h t, P t → P (body k h t))
    (hbody : ∀ k h t, P t → visited t.slot[k] = true → body' k h t = body k h t) (hs : P s) :
    visitVoices visited (fun k h t => (body' k h t, n)) s = visitVoices visited (fun k h t => (body k h t, n)) s := by
  rw [visitVoices_eq, visitVoices_eq]
  have hfold : ∀ (l : List SlotId) (acc : State × Nat), P acc.1 →
      l.foldl (visitStep visited fun k h t => (body' k h t, n)) acc =
        l.foldl (visitStep visited fun k h t => (body k h t, n)) acc := by
    intro l
    induction l with
    | nil => intro acc _; rfl
    | cons k l ih =>
      intro acc hacc
      rw [List.foldl_cons, List.foldl_cons]
      cases hk : acc.1.slot[k].lchan with
      | none => rw [visitStep_free hk, visitStep_free hk, ih acc hacc]
      | some h =>
        cases hsel : visited acc.1.slot[k] with
        | false => rw [visitStep_skip hsel, visitStep_skip hsel, ih acc hacc]
        | true =>
          rw [visitStep_visit hk hsel, visitStep_visit hk hsel, hbody k h acc.1 hacc hsel]
          exact ih _ (hP k h acc.1 hacc)
  exact hfold allSlots (s, 0) hs

/-- The slots chosen are those of the voices that the visit selects. -/
theorem chosen_iff (hsel : ∀ x, visited x = true ↔ x.midiCh = m ∧ sel x = true) {x : Slot} :
    chosen m sel x = true ↔ (∃ h, x.lchan = some h) ∧ visited x = true := by
  rw [hsel, chosen, Bool.and_eq_true, Bool.and_eq_true, beq_iff_eq, and_assoc, Option.isSome_iff_exists]

theorem vector_ext {α : Type} {n : Nat} {v w : Vector α n} (h : ∀ i : Fin n, v[i] = w[i]) : v = w :=
  Vector.ext fun i hi => h ⟨i, hi⟩

/-- Visits that make `f` of their own slots make it of the slots of the voices selected. -/
theorem slot_visitVoices {n : Nat} (hsel : ∀ x, visited x = true ↔ x.midiCh = m ∧ sel x = true)
    (hslot : ∀ k h t, (body k h t).slot = t.slot.set k (f t.slot[k])) (s : State) :
    (visitVoices visited (fun k h t => (body k h t, n)) s).1.slot =
      s.slot.map (fun x => if chosen m sel x then f x else x) := by
  have hown : OwnSlot (fun k h t => (body k h t, n)) := fun k h t => ⟨_, hslot k h t⟩
  have hget (k : SlotId) : (s.slot.map (fun x => if chosen m sel x then f x else x))[k] =
      if chosen m sel s.slot[k] then f s.slot[k] else s.slot[k] := Vector.getElem_map ..
  refine vector_ext fun k => ?_
  rw [hget]
  obtain ⟨hpass, e⟩ | ⟨h, u, hk, hv, -, hu, e⟩ :=
    visit_slot (sel := visited) hown (P := fun _ => True) (s := s) k trivial (fun _ _ _ _ _ _ => trivial)
  · rw [e, if_neg]
    intro hx
    obtain ⟨⟨h, hk⟩, hv⟩ := (chosen_iff hsel).1 hx
    rcases hpass with hpass | hpass
    · exact absurd (hk.symm.trans hpass) (by simp)
    · exact absurd (hv.symm.trans hpass) (by decide)
  · rw [e, hslot, get_set, if_pos rfl, hu, if_pos ((chosen_iff hsel).2 ⟨⟨h, hk⟩, hv⟩)]

/-! ### The voices released, and the voices sustained -/

/-- The handles of these voices that are allocated: of the others the key-off is refused (R311). -/
def heldOf (s : State) (vs : List (SlotId × Handle)) : List Handle :=
  vs.filterMap (fun kh => if s.allocd[kh.2] = true then some kh.2 else none)

theorem heldHandles_eq (s : State) (m : MidiId) (sel : Slot → Bool) :
    heldHandles s m sel = heldOf s (voicesOf s m sel) := rfl

theorem heldOf_cons (s : State) (k : SlotId) (h : Handle) (vs : List (SlotId × Handle)) :
    heldOf s ((k, h) :: vs) = if s.allocd[h] = true then h :: heldOf s vs else heldOf s vs := by
  unfold heldOf
  split
  · next ha => exact List.filterMap_cons_some (if_pos ha)
  · next ha => exact List.filterMap_cons_none (if_neg ha)

/-- A key-off reads no slot. -/
theorem keyedOff_slot (s : State) (slots slots' : Vector Slot 23) (hs : List Handle) :
    { State.keyedOff { s with slot := slots } hs with slot := slots' } = { s.keyedOff hs with slot := slots' } := by
  have hwrites (key : Vector Bool 5) : keyOffWrites { s with slot := slots } key hs = keyOffWrites s key hs :=
    keyOffWrites_congr (t := { s with slot := slots }) s rfl (fun _ => rfl) key hs
  rw [keyedOff_eq, keyedOff_eq, hwrites]
  rfl

theorem keyOff_held {s : State} {h : Handle} (ha : s.allocd[h] = true) :
    attempt (setKey cvs false h) s = writeKey cvs false h s :=
  attempt_ok (setKey_ok_iff.2 ⟨ha, rfl⟩)

/-- The key-off of a handle that is not allocated is refused (R131, R311). -/
theorem keyOff_refused {s : State} {h : Handle} (ha : ¬ s.allocd[h] = true) : attempt (setKey cvs false h) s = s :=
  attempt_error (c := .invalidHandle) (if_neg ha)

/-- The voices released one after another: the key-offs of the handles that are allocated, and the slots. -/
theorem foldl_releaseVoice (s : State) (vs : List (SlotId × Handle)) :
    ∃ slots, vs.foldl (fun u kh => releaseVoice cvs kh.1 kh.2 u) s =
      { s.keyedOff (heldOf s vs) with slot := slots } := by
  induction vs generalizing s with
  | nil => exact ⟨s.slot, (keyedOff_nil s).symm⟩
  | cons kh vs ih =>
    obtain ⟨k, h⟩ := kh
    rw [List.foldl_cons, heldOf_cons]
    obtain ⟨slots, e⟩ := ih (releaseVoice cvs k h s)
    refine ⟨slots, e.trans ?_⟩
    have hallocd : (releaseVoice cvs k h s).allocd = s.allocd := congrArg Frame.allocd (frame_keyOff h s)
    have hheld : heldOf (releaseVoice cvs k h s) vs = heldOf s vs := by rw [heldOf, hallocd, heldOf]
    rw [hheld]
    refine (keyedOff_slot (attempt (setKey cvs false h) s) _ slots (heldOf s vs)).trans ?_
    split
    · next ha => rw [keyOff_held ha, keyedOff_cons]
    · next ha => rw [keyOff_refused ha]

/-- The voices that a command selects, released in slot order (R170, R177). -/
theorem visit_releaseVoice (hsel : ∀ x, visited x = true ↔ x.midiCh = m ∧ sel x = true) (n : Nat) (s : State) :
    visitVoices visited (fun k h t => (releaseVoice cvs k h t, n)) s =
      ((s.keyedOff (heldHandles s m sel)).mapSlots (chosen m sel) Slot.released, n * (voicesOf s m sel).length) := by
  rw [heldHandles_eq]
  have hslot := slot_visitVoices (f := Slot.released) (n := n) hsel slot_releaseVoice s
  rw [visit_voicesOf hsel (ownSlot_releaseVoice n)] at hslot ⊢
  obtain ⟨slots, e⟩ := foldl_releaseVoice s (voicesOf s m sel)
  rw [e] at hslot ⊢
  obtain rfl : slots = _ := hslot
  rfl

/-- The voices that a command selects, with one change made of each slot and no more (R170). -/
theorem visit_updSlot (hsel : ∀ x, visited x = true ↔ x.midiCh = m ∧ sel x = true) (f : Slot → Slot) (n : Nat)
    (s : State) :
    visitVoices visited (fun k _ t => (t.updSlot k f, n)) s =
      (s.mapSlots (chosen m sel) f, n * (voicesOf s m sel).length) := by
  have hslot := slot_visitVoices (body := fun k _ t => t.updSlot k f) (n := n) hsel (fun _ _ _ => rfl) s
  have hfold : ∀ (vs : List (SlotId × Handle)) (u : State),
      ∃ slots, vs.foldl (fun u kh => u.updSlot kh.1 f) u = { u with slot := slots } := by
    intro vs
    induction vs with
    | nil => intro u; exact ⟨u.slot, rfl⟩
    | cons kh vs ih =>
      intro u
      obtain ⟨slots, e⟩ := ih (u.updSlot kh.1 f)
      exact ⟨slots, e⟩
  rw [visit_voicesOf hsel (fun k _ t => ⟨_, rfl⟩)] at hslot ⊢
  obtain ⟨slots, e⟩ := hfold (voicesOf s m sel) s
  rw [e] at hslot ⊢
  obtain rfl : slots = _ := hslot
  rfl

/-! ### StopVoice, by the pedal (R177) -/

/-- The pedal that `StopVoice` reads at a visit of a channel's voice. -/
theorem pedal_visited {s t : State} {k : SlotId} (hsel : ∀ x, visited x = true ↔ x.midiCh = m ∧ sel x = true)
    (e : t.patch = s.patch) (hv : visited t.slot[k] = true) :
    t.patch[t.slot[k].midiCh].pedal = s.patch[m].pedal := by
  simp only [e, ((hsel _).1 hv).1]

/-- With the pedal up, the voices that a command stops are released. -/
theorem visit_stopVoice_released {s : State} (hsel : ∀ x, visited x = true ↔ x.midiCh = m ∧ sel x = true) (n : Nat)
    (hpedal : s.patch[m].pedal = false) :
    visitVoices visited (fun k h t => (stopVoice cvs k h t, n)) s =
      ((s.keyedOff (heldHandles s m sel)).mapSlots (chosen m sel) Slot.released, n * (voicesOf s m sel).length) := by
  rw [← visit_releaseVoice hsel]
  refine visitVoices_congr (P := fun t => t.patch = s.patch) (fun k h t e => (patch_releaseVoice k h t).trans e) ?_ rfl
  intro k h t e hv
  rw [stopVoice, pedal_visited hsel e hv, hpedal]
  rfl

/-- With the pedal down, the voices that a command stops are sustained. -/
theorem visit_stopVoice_sustained {s : State} (hsel : ∀ x, visited x = true ↔ x.midiCh = m ∧ sel x = true) (n : Nat)
    (hpedal : s.patch[m].pedal = true) :
    visitVoices visited (fun k h t => (stopVoice cvs k h t, n)) s =
      (s.mapSlots (chosen m sel) (fun x => { x with sustained := true }), n * (voicesOf s m sel).length) := by
  rw [← visit_updSlot hsel]
  refine visitVoices_congr (P := fun t => t.patch = s.patch) (fun k h t e => e) ?_ rfl
  intro k h t e hv
  rw [stopVoice, pedal_visited hsel e hv, hpedal]
  rfl

end Visited

/-! ### The commands -/

theorem noteSelector_iff (m : MidiId) (note : BitVec 7) (x : Slot) :
    (ofChannel m x && x.note == note) = true ↔ x.midiCh = m ∧ (x.note == note) = true := by
  simp [ofChannel]

theorem sustainedSelector_iff (m : MidiId) (x : Slot) :
    (ofChannel m x && x.sustained) = true ↔ x.midiCh = m ∧ x.sustained = true := by
  simp [ofChannel]

section Commands
variable {s : State} {a b c : Byte} {m : MidiId}

theorem exec_noteOff {note : BitVec 7} (ha : a.toNat = m.val) (hb : b.toNat = note.toNat) (s : State) :
    exec (.noteOff a b) s =
      let r := visitVoices (fun x => ofChannel m x && x.note == note) (fun k h t => (stopVoice cvs k h t, 1)) s
      .next (r.1.answer .ok (BitVec.ofNat 8 r.2)) := by
  simp only [exec, execNoteOff, midiChannel_eq ha, sevenBit_eq_some hb]
  rfl

theorem exec_allNotesOff (ha : a.toNat = m.val) (hc : c.toNat ≤ 127) (s : State) :
    exec (.ctrlAllNotesOff a c) s = .next ((forVoices m (stopVoice cvs) s).answer .ok 0) := by
  simp only [exec, execCtrlAllNotesOff]
  exact ctrlCommand_eq ha hc rfl

/-- The pedal's value is its operand's highest bit (R87, R221). -/
theorem scaled_one_iff (hc : c.toNat ≤ 127) : scaled 1 (c.setWidth 7) = 1 ↔ 64 ≤ c.toNat := by
  have hv : (c.setWidth 7).toNat = c.toNat := by
    rw [BitVec.toNat_setWidth]
    omega
  simp only [scaled, hv, Nat.shiftRight_eq_div_pow]
  omega

theorem exec_pedalDown (ha : a.toNat = m.val) (hc : c.toNat ≤ 127) (hdown : 64 ≤ c.toNat) (s : State) :
    exec (.ctrlSustainPedal a c) s = .next ((s.updPatch m (fun P => { P with pedal := true })).answer .ok 0) := by
  have hscaled := (scaled_one_iff hc).2 hdown
  simp only [exec, execCtrlSustainPedal]
  exact ctrlCommand_eq ha hc (by simp only [hscaled, if_true, decide_true])

theorem exec_pedalUp (ha : a.toNat = m.val) (hc : c.toNat ≤ 127) (hup : c.toNat < 64) (s : State) :
    exec (.ctrlSustainPedal a c) s = .next (State.answer (visitVoices (fun x => ofChannel m x && x.sustained)
      (fun k h t => (releaseVoice cvs k h t, 0)) (s.updPatch m (fun P => { P with pedal := false }))).1 .ok 0) := by
  have hscaled : ¬ scaled 1 (c.setWidth 7) = 1 := fun e => absurd ((scaled_one_iff hc).1 e) (by omega)
  simp only [exec, execCtrlSustainPedal]
  exact ctrlCommand_eq ha hc (by simp only [hscaled, if_false, decide_false])

end Commands

/-- Settles O46: the three commands, with the pedal up and with the pedal down. -/
theorem notesReleased : Obligations.NotesReleased := by
  intro s a m ha
  refine ⟨?_, ?_, ?_⟩
  · rintro b note _ hb rfl
    rw [exec_noteOff ha hb]
    refine ⟨fun hpedal => ?_, fun hpedal => ?_⟩
    · rw [visit_stopVoice_released (noteSelector_iff m note) 1 hpedal, Nat.one_mul]
    · rw [visit_stopVoice_sustained (noteSelector_iff m note) 1 hpedal, Nat.one_mul]
  · rintro c _ hc rfl
    rw [exec_allNotesOff ha hc]
    refine ⟨fun hpedal => ?_, fun hpedal => ?_⟩
    · rw [forVoices, visit_stopVoice_released (ofChannel_iff m) 0 hpedal]
    · rw [forVoices, visit_stopVoice_sustained (ofChannel_iff m) 0 hpedal]
  · rintro c _ hc rfl
    refine ⟨fun hdown => exec_pedalDown ha hc hdown s, fun hup => ?_⟩
    rw [exec_pedalUp ha hc hup, visit_releaseVoice (sustainedSelector_iff m)]
    rfl

end Sys2Proof.ReleasedVoices
end

section
/-! The range tests of the events and of the controllers (R86, R200, R201, R203, R224). -/

namespace Sys2Proof.EventRefusals

open Sys2Proof.Machine Sys2Proof.VoiceMoves Sys2Proof.Setters

/-- A controller that refuses every channel and value which its operands can be (R200). -/
theorem ctrlCommand_refused {a c : Byte} {body : MidiId → BitVec 7 → State → Except Code State} {s : State}
    (hbody : ∀ m v, a.toNat = m.val → c.toNat = v.toNat → body m v s = .error .outOfRange) :
    ctrlCommand a c body s = .next (s.answer .outOfRange 0) := by
  unfold ctrlCommand
  split
  · next m v hm hv =>
    rw [hbody m v (midiChannel_val hm) (sevenBit_toNat hv)]
    rfl
  · rfl

/-- A controller of the map is the common frame around its own tests and effect (R200). -/
theorem exec_controller {i : Instr} {a c : Byte} (hi : ctrlOperands i = some (a, c)) (s : State) :
    ∃ body, exec i s = ctrlCommand a c body s := by
  have hop (w : Nat) (put : Nat → Template → Template) (how : OpApply) (j : BitVec 2) :
      ∃ body, opCtrl cvs w put how a j c s = ctrlCommand a c body s := ⟨_, rfl⟩
  cases i <;> cases hi <;> simp only [exec]
  case ctrlProgram | ctrlVolume | ctrlAlgorithm | ctrlFeedback | ctrlOutput | ctrlLfoDelay | ctrlSustainPedal
    | ctrlAllSoundOff | ctrlAllNotesOff => exact ⟨_, rfl⟩
  case ctrlOpAttack | ctrlOpDecay | ctrlOpSustain | ctrlOpRelease | ctrlOpWaveform | ctrlOpLevel | ctrlOpKsl
    | ctrlOpMult | ctrlOpTremolo | ctrlOpVibrato | ctrlOpSusflag | ctrlOpEnvscale | ctrlOpVelsens => exact hop ..

theorem exec_noteOff_refused {a b : Byte} (h : 15 < a.toNat ∨ 127 < b.toNat) (s : State) :
    exec (.noteOff a b) s = .next (s.answer .outOfRange 0) := by
  simp only [exec, execNoteOff]
  split
  · next m v hm hv =>
    have hval := midiChannel_val hm
    have hnote := sevenBit_toNat hv
    omega
  · rfl

theorem exec_pitchBend_refused {a : Byte} {v : BitVec 16} (h : 15 < a.toNat ∨ 16383 < v.toNat) (s : State) :
    exec (.pitchBend a v) s = .next (s.answer .outOfRange 0) := by
  simp only [exec, execPitchBend]
  split
  · rfl
  · next m hm =>
    have hval := midiChannel_val hm
    rw [if_pos (by omega)]
    rfl

/-- An unassigned controller number is the refusal and no more (R224). -/
theorem exec_ctrl_unassigned {a b c : Byte} (hwf : Instr.wf cvs (.ctrl a b c) = true) (s : State) :
    exec (.ctrl a b c) s = .next (s.answer .outOfRange 0) := by
  have hnone : controllerOf cvs b = none := by simpa [Instr.wf, assignedController] using hwf
  simp only [exec, execCtrl, hnone]
  rfl

theorem programOf_eq_none : ∀ v : BitVec 7, 10 < v.toNat → programOf v = none := by decide

/-- The single-operator roles have no algorithm (R203). -/
theorem algorithmOf_single {t : ChType} (ht : t.singleOp = true) (v : BitVec 7) : algorithmOf t v = none := by
  cases t with
  | null | twoOp | fourOp | kick => cases ht
  | snare | tomTom | cymbal | hiHat => rfl

/-- Settles O50: out of range means no operands for the command's own part, and the two controllers refuse by their tests. -/
theorem eventRefused : Obligations.EventRefused := by
  refine ⟨fun s a b h => exec_noteOff_refused h s, fun s a v h => exec_pitchBend_refused h s, fun i a c s hi h => ?_,
    fun a b c s hwf => exec_ctrl_unassigned hwf s, fun a c s hc => ?_, fun a c s m ha ht => ?_⟩
  · obtain ⟨body, hexec⟩ := exec_controller hi s
    rw [hexec]
    refine ctrlCommand_refused fun m v hm hv => ?_
    omega
  · simp only [exec, execCtrlProgram]
    refine ctrlCommand_refused fun m v _ hv => ?_
    simp only [programOf_eq_none v (hv ▸ hc)]
  · rw [← singleOp_iff] at ht
    simp only [exec, execCtrlAlgorithm]
    refine ctrlCommand_refused fun n v hn _ => ?_
    obtain rfl : n = m := Fin.ext (hn.symm.trans ha)
    simp only [algorithmOf_single ht]

end Sys2Proof.EventRefusals
end

section
/-! The controllers with their operands in range: the scaled value (R87), what is stored in the patch, and the visits to the
voices of the channel (R200). -/

namespace Sys2Proof.StoredControllers

open Sys2Proof.Machine Sys2Proof.Visits Sys2Proof.CommandMoves Sys2Proof.VoiceMoves
  Sys2Proof.SilencedVoices Sys2Proof.AlgorithmVoices Sys2Proof.ReleasedVoices

/-! ### The scaled value (R87) -/

/-- A value scaled to a field of `w` bits is the `w` highest of its seven bits. -/
theorem ofNat_scaled {w j : Nat} (h : j + w = 7) (c : Byte) :
    BitVec.ofNat w (scaled w (c.setWidth 7)) = c.extractLsb' j w := by
  obtain rfl : j = 7 - w := by omega
  refine BitVec.eq_of_getLsbD_eq fun i hi => ?_
  have hbit : 7 - w + i < 7 := by omega
  simp only [BitVec.getLsbD_ofNat, scaled, Nat.testBit_shiftRight, BitVec.testBit_toNat, BitVec.getLsbD_setWidth,
    BitVec.getLsbD_extractLsb', hi, hbit, decide_true, Bool.true_and]

theorem scaled_lt {w : Nat} (h : w ≤ 7) (v : BitVec 7) : scaled w v < 2 ^ w := by
  have hpow : 2 ^ (7 - w) * 2 ^ w = 2 ^ 7 := by rw [← pow_add, Nat.sub_add_cancel h]
  rw [scaled, Nat.shiftRight_eq_div_pow]
  exact Nat.div_lt_of_lt_mul (hpow ▸ v.isLt)

/-- The pedal's value is its operand's bit 6 (R87, R221). -/
theorem pedal_eq (c : Byte) : decide (scaled 1 (c.setWidth 7) = 1) = c.getLsbD 6 := by
  revert c
  decide

/-! ### The visits (R170) -/

/-- Visits that stay within the register cache are made to the voices that the command found, in their order. -/
theorem forVoices_eq_foldl {body : SlotId → Handle → State → State} (hframe : ∀ k h t, frame (body k h t) = frame t)
    (m : MidiId) (s : State) :
    forVoices m body s = (voicesOf s m (fun _ => true)).foldl (fun u kh => body kh.1 kh.2 u) s := by
  rw [forVoices, visit_voicesOf (ofChannel_iff m) (ownSlot_of_frame hframe)]

/-- Where no voice is selected there is no visit. -/
theorem visitVoices_of_none {sel : Slot → Bool} {s : State}
    (h : ∀ k : SlotId, s.slot[k].lchan = none ∨ sel s.slot[k] = false)
    (body : SlotId → Handle → State → State × Nat) : visitVoices sel body s = (s, 0) := by
  rw [visitVoices_eq]
  induction allSlots with
  | nil => rfl
  | cons k l ih =>
    rw [List.foldl_cons]
    rcases h k with hk | hk
    · rw [visitStep_free hk, ih]
    · rw [visitStep_skip hk, ih]

theorem no_voice {s : State} {m : MidiId} (h : voicesOf s m (fun _ => true) = []) (k : SlotId) :
    s.slot[k].lchan = none ∨ ofChannel m s.slot[k] = false := by
  rw [← boundVoices_eq_voicesOf (ofChannel_iff m), boundVoices, List.filterMap_eq_nil_iff] at h
  have hk := h k (mem_allSlots k)
  cases hchan : s.slot[k].lchan with
  | none => exact .inl rfl
  | some g =>
    right
    by_contra hsel
    rw [boundAt_voice hchan (Bool.not_eq_false _ ▸ hsel)] at hk
    cases hk

theorem forVoices_of_none {s : State} {m : MidiId} (h : voicesOf s m (fun _ => true) = [])
    (body : SlotId → Handle → State → State) : forVoices m body s = s := by
  rw [forVoices, visitVoices_of_none (no_voice h)]

/-! ### The commands -/

/-- The patch of a MIDI channel replaced. -/
def patched (s : State) (m : MidiId) (P : Patch) : State := { s with patch := s.patch.set m P }

/-- The patch of a MIDI channel with a new template at one operator index. -/
def withTemplate (P : Patch) (i : Fin 4) (T : Template) : Patch := { P with op := P.op.set i T }

section Commands
variable {s : State} {a c : Byte} {m : MidiId} (ha : a.toNat = m.val) (hc : c.toNat ≤ 127)
include ha hc

theorem exec_lfoDelay :
    exec (.ctrlLfoDelay a c) s = .next ((patched s m { s.patch[m] with lfoDelay := c.setWidth 7 }).answer .ok 0) := by
  simp only [exec, execCtrlLfoDelay]
  exact ctrlCommand_eq ha hc rfl

theorem exec_volume :
    exec (.ctrlVolume a c) s = .next ((forVoices m
      (fun k h t => forOpIndices cvs h (fun i u => if opType cvs u h i.val = .carrier then setAtten cvs k h i u else u) t)
      (patched s m { s.patch[m] with volume := c.extractLsb' 1 6 })).answer .ok 0) := by
  simp only [exec, execCtrlVolume]
  refine ctrlCommand_eq ha hc ?_
  rw [ofNat_scaled (j := 1) rfl]
  rfl

theorem exec_feedback :
    exec (.ctrlFeedback a c) s = .next ((forVoices m (fun _ h t => attempt (setFeedback cvs h t.patch[m].fb.toNat) t)
      (patched s m { s.patch[m] with fb := c.extractLsb' 4 3 })).answer .ok 0) := by
  simp only [exec, execCtrlFeedback]
  refine ctrlCommand_eq ha hc ?_
  rw [ofNat_scaled (j := 4) rfl]
  rfl

theorem exec_output :
    exec (.ctrlOutput a c) s = .next ((forVoices m (fun _ h t => attempt (setOutput cvs h t.patch[m].out.toNat) t)
      (patched s m { s.patch[m] with out := c.extractLsb' 3 4 })).answer .ok 0) := by
  simp only [exec, execCtrlOutput]
  refine ctrlCommand_eq ha hc ?_
  rw [ofNat_scaled (j := 3) rfl]
  rfl

/-- An operator-field controller stores its value in the template, and then goes through the voices (R207). -/
theorem opCtrl_eq {w : Nat} {put : Nat → Template → Template} {i : BitVec 2} {T : Template} (how : OpApply)
    (hT : put (scaled w (c.setWidth 7)) s.patch[m].op[i.toFin] = T) :
    opCtrl cvs w put how a i c s = .next ((forVoices m (how.run cvs i.toFin (scaled w (c.setWidth 7)))
      (patched s m (withTemplate s.patch[m] i.toFin T))).answer .ok 0) := by
  subst hT
  exact ctrlCommand_eq ha hc rfl

end Commands

/-! ### No voice on the channel -/

section NoVoice
variable {s : State} {a c : Byte} {m : MidiId} (ha : a.toNat = m.val) (hc : c.toNat ≤ 127)
  (hnone : voicesOf s m (fun _ => true) = [])
include hnone

theorem forVoices_patched (P : Patch) (body : SlotId → Handle → State → State) :
    forVoices m body (patched s m P) = patched s m P :=
  forVoices_of_none (s := patched s m P) hnone body

/-- With no voice on the channel nothing is silenced. -/
theorem silencedAll_of_none : silencedAll s m = s := by
  rw [silencedAll, hnone, List.foldl_nil]

include ha hc

theorem opCtrl_stores {w : Nat} {put : Nat → Template → Template} {how : OpApply} {i : BitVec 2} {T : Template}
    (hT : put (scaled w (c.setWidth 7)) s.patch[m].op[i.toFin] = T) :
    opCtrl cvs w put how a i c s = .next ((patched s m (withTemplate s.patch[m] i.toFin T)).answer .ok 0) := by
  rw [opCtrl_eq ha hc how hT, forVoices_patched hnone]

theorem algorithm_stores {alg : BitVec 2}
    (halg : ((s.patch[m].ctype = .twoOp ∨ s.patch[m].ctype = .kick) ∧ alg = (0 : BitVec 1) ++ c.extractLsb' 6 1)
      ∨ (s.patch[m].ctype = .fourOp ∧ alg = c.extractLsb' 5 2)) :
    exec (.ctrlAlgorithm a c) s = .next ((patched s m { s.patch[m] with algorithm := alg }).answer .ok 0) := by
  rw [exec_algorithm ha hc (algorithmOf_eq halg), hnone]
  rfl

theorem pedal_stores :
    exec (.ctrlSustainPedal a c) s = .next ((patched s m { s.patch[m] with pedal := c.getLsbD 6 }).answer .ok 0) := by
  simp only [exec, execCtrlSustainPedal]
  refine ctrlCommand_eq ha hc ?_
  rw [pedal_eq]
  split
  · rfl
  · have hpassed (k : SlotId) : s.slot[k].lchan = none ∨ (ofChannel m s.slot[k] && s.slot[k].sustained) = false :=
      (no_voice hnone k).imp_right fun h => by rw [h, Bool.false_and]
    rw [visitVoices_of_none (s := s.updPatch m _) (sel := fun x => ofChannel m x && x.sustained) hpassed]
    rfl

end NoVoice

/-- Settles O51: what the command stores, and the visits to no voice. -/
theorem controllerStores : Obligations.ControllerStores := by
  rintro s a c i m _ _ _ ha hc rfl rfl rfl
  refine ⟨exec_lfoDelay ha hc, fun hnone => ?_⟩
  have hop (w j : Nat) (hw : j + w = 7) (put : BitVec w → Template → Template) (how : OpApply) :
      opCtrl cvs w (fun v T => put (BitVec.ofNat w v) T) how a i c s = .next ((patched s m (withTemplate s.patch[m] i.toFin
        (put (c.extractLsb' j w) s.patch[m].op[i.toFin]))).answer .ok 0) :=
    opCtrl_stores ha hc hnone (by rw [ofNat_scaled hw])
  have hkept : patched s m s.patch[m] = s := by simp [patched]
  refine ⟨fun ty alg h => ?_, ?_, fun h => algorithm_stores ha hc hnone (.inl ⟨h, rfl⟩),
    fun h => algorithm_stores ha hc hnone (.inr ⟨h, rfl⟩), ?_, ?_, ?_, ?_, ?_, ?_, ?_, ?_, ?_, ?_, ?_, ?_, ?_, ?_, ?_,
    pedal_stores ha hc hnone, ?_, ?_⟩
  · rw [exec_program ha hc (programOf_eq hc h), silencedAll_of_none hnone]
  · rw [exec_volume ha hc, forVoices_patched hnone]
    rfl
  · rw [exec_feedback ha hc, forVoices_patched hnone]
    rfl
  · rw [exec_output ha hc, forVoices_patched hnone]
    rfl
  · exact hop 4 3 rfl (fun x T => { T with ar := x }) _
  · exact hop 4 3 rfl (fun x T => { T with dr := x }) _
  · exact hop 4 3 rfl (fun x T => { T with sl := x }) _
  · exact hop 4 3 rfl (fun x T => { T with rr := x }) _
  · exact hop 3 4 rfl (fun x T => { T with ws := x }) _
  · exact hop 6 1 rfl (fun x T => { T with level := x }) _
  · exact hop 2 5 rfl (fun x T => { T with ksl := x }) _
  · exact hop 4 3 rfl (fun x T => { T with mult := x }) _
  · exact hop 1 6 rfl (fun x T => { T with trem := x }) _
  · exact hop 1 6 rfl (fun x T => { T with vib := x }) _
  · exact hop 1 6 rfl (fun x T => { T with sus := x }) _
  · exact hop 1 6 rfl (fun x T => { T with ksr := x }) _
  · exact hop 6 1 rfl (fun x T => { T with velSens := x }) _
  · rw [exec_allSoundOff ha hc, silencedAll_of_none hnone]
    exact congrArg (fun u : State => Host.Outcome.next (u.answer .ok 0)) hkept.symm
  · rw [exec_allNotesOff ha hc, forVoices_of_none hnone]
    exact congrArg (fun u : State => Host.Outcome.next (u.answer .ok 0)) hkept.symm

end Sys2Proof.StoredControllers
end

section
/-! The operator-field controllers with a register of their own: one field and one register write for each voice, in slot
order (R207 to R212, R214 to R219). -/

namespace Sys2Proof.OperatorFields

open Sys2Proof.Machine Sys2Proof.PitchBend Sys2Proof.CommandMoves Sys2Proof.OperatorRuns Sys2Proof.HandleCommands
  Sys2Proof.StoredControllers

/-! ### One field of one operator (R132) -/

/-- The operator field `f` takes the value `v`; the list of operators carries nothing beside them. -/
def putField (f : OpField) (v : Nat) (_ : Unit) (o : Oper) : Oper := f.put v o

/-- The one register write of the field. -/
def fieldWrites (f : OpField) (n : OperId) (o : Oper) : List RegVal := [(opReg n f.base, f.byte o)]

theorem put_put (f : OpField) (v : Nat) (o : Oper) : f.put v (f.put v o) = f.put v o := by cases f <;> rfl

/-- The operator of index `i` of a handle that is allocated: of any other the setter is refused (R132, R311). -/
def settable (s : State) (h : Handle) (i : Nat) : Option OperId := if s.allocd[h] = true then (opsOf cvs s h)[i]? else none

theorem voiceOpers_eq (s : State) (m : MidiId) (sel : Slot → Bool) (i : Nat) :
    voiceOpers s m sel i = (voicesOf s m sel).filterMap (fun kh => settable s kh.2 i) := rfl

/-- A setter for a voice, skipped where it is refused (R132, R200, R311). -/
theorem attempt_setOp {f : OpField} {v : Nat} (hv : v < 2 ^ f.width) (h : Handle) (i : Nat) (s : State) :
    attempt (setOp cvs f h i v) s =
      operRun (putField f v) (fieldWrites f) s ((settable s h i).map (fun n => (n, ()))).toList := by
  unfold settable
  split
  · next ha =>
    cases hn : (opsOf cvs s h)[i]? with
    | none =>
      rw [attempt_error (c := .outOfRange) (by simp only [setOp, ha, hn, if_true])]
      exact (operRun_nil ..).symm
    | some n =>
      rw [attempt_ok (setOp_ok_iff.2 ⟨ha, hv, n, hn, rfl⟩)]
      exact (operRun_single (putField f v) (fieldWrites f) s n ()).symm
  · next ha =>
    rw [attempt_error (setOp_needs f i v h s (Bool.eq_false_iff.2 ha))]
    exact (operRun_nil ..).symm

/-! ### Step (b) for one voice (R207) -/

/-- An operator index that the handle does not have is refused in any case. -/
theorem run_setter (f : OpField) (i : Fin 4) (v : Nat) (k : SlotId) (h : Handle) (s : State) :
    (OpApply.setter f).run cvs i v k h s = attempt (setOp cvs f h i.val v) s := by
  simp only [OpApply.run]
  split
  · rfl
  · next hi =>
    have hnone : (opsOf cvs s h)[i.val]? = none := List.getElem?_eq_none (not_lt.1 hi)
    simp only [attempt, setOp, hnone]
    split
    · next e => split at e <;> cases e
    · rfl

theorem run_gated (f : OpField) (i : Fin 4) (v : Nat) (k : SlotId) (h : Handle) (s : State) :
    (OpApply.gated f).run cvs i v k h s =
      if s.slot[k].lfoTriggered = true then (OpApply.setter f).run cvs i v k h s else s := by
  simp only [OpApply.run]
  split_ifs <;> rfl

/-! ### Every voice of the channel -/

/-- The voices that `sel` selects are chosen among those of the channel. -/
theorem voicesOf_eq_filter (s : State) (m : MidiId) (sel : Slot → Bool) :
    voicesOf s m sel = (voicesOf s m (fun _ => true)).filter (fun kh => sel s.slot[kh.1]) := by
  rw [voicesOf_eq, voicesOf_eq, List.filter_filterMap]
  congr 1
  funext k
  unfold voiceAt
  cases s.slot[k].lchan with
  | none => rfl
  | some h =>
    by_cases hm : s.slot[k].midiCh = m
    · simp only [hm, true_and, if_true, Option.filter_some]
    · simp only [hm, false_and, if_false, Option.filter_none]

/-- A field set for each voice that `sel` selects: the runs of its register writes, in slot order. -/
theorem forVoices_setOp {body : SlotId → Handle → State → State} {f : OpField} {i v : Nat} {sel : Slot → Bool}
    (hv : v < 2 ^ f.width)
    (hbody : ∀ k h u, body k h u = if sel u.slot[k] = true then attempt (setOp cvs f h i v) u else u)
    (m : MidiId) (s : State) :
    forVoices m body s = operRun (putField f v) (fieldWrites f) s ((voiceOpers s m sel i).map (fun n => (n, ()))) := by
  have hframe (k : SlotId) (h : Handle) (u : State) : frame (body k h u) = frame u := by
    rw [hbody]
    split
    · exact frame_attempt fun _ e => frame_setOp e
    · rfl
  have hwrites (a b : Unit) (n : OperId) (o : Oper) :
      fieldWrites f n (putField f v b (putField f v a o)) = fieldWrites f n (putField f v b o) := by
    simp only [putField, put_put]
  rw [forVoices_eq_foldl hframe, voiceOpers_eq, voicesOf_eq_filter s m sel, List.map_filterMap, List.filterMap_filter]
  refine foldl_eq_operRun hwrites (fun kh u hu => ?_) _
  have hsettable : settable u kh.2 i = settable s kh.2 i := by simp only [settable, hu.allocd, opsOf_congr hu.ctype]
  rw [hbody, hu.slot, attempt_setOp hv, hsettable]
  split
  · rfl
  · exact (operRun_nil ..).symm

/-! ### The commands -/

theorem operCtrl_eq (s : State) (m : MidiId) (i : Fin 4) (sel : Slot → Bool) (T : Template) (f : OpField) (v : Nat) :
    s.operCtrl m i sel T (f.put v) f.base f.byte = State.answer (operRun (putField f v) (fieldWrites f)
      (patched s m (withTemplate s.patch[m] i T)) ((voiceOpers s m sel i.val).map (fun n => (n, ())))) .ok 0 := by
  rw [State.operCtrl, operRun, List.foldl_map, List.flatMap_map, List.map_eq_flatMap]
  rfl

section Commands
variable {s : State} {a c : Byte} {i : BitVec 2} {m : MidiId} (ha : a.toNat = m.val) (hc : c.toNat ≤ 127)
  (f : OpField) {j : Nat} (hj : j + f.width = 7) (put : BitVec f.width → Template → Template)
  (g : BitVec f.width → Oper → Oper) (hg : ∀ v, f.put v = g (BitVec.ofNat f.width v))
include ha hc hj hg

/-- An operator-field controller whose step (b) is a setter for the voices that `sel` selects: the template and the
operators take the value's highest bits, from bit `j` on (R87, R207). -/
theorem opCtrl_setOp {how : OpApply} {sel : Slot → Bool} (hrun : ∀ v k h u, how.run cvs i.toFin v k h u =
      if sel u.slot[k] = true then attempt (setOp cvs f h i.toFin.val v) u else u) :
    opCtrl cvs f.width (fun v T => put (BitVec.ofNat f.width v) T) how a i c s =
      .next (s.operCtrl m i.toFin sel (put (c.extractLsb' j f.width) s.patch[m].op[i.toFin])
        (g (c.extractLsb' j f.width)) f.base f.byte) := by
  have hwidth : f.width ≤ 7 := Nat.le.intro ((Nat.add_comm ..).trans hj)
  rw [opCtrl_eq ha hc how rfl, forVoices_setOp (scaled_lt hwidth _) (hrun _), ← ofNat_scaled hj, ← hg, operCtrl_eq]
  rfl

/-- With a setter for every voice of the channel. -/
theorem opCtrl_setter :
    opCtrl cvs f.width (fun v T => put (BitVec.ofNat f.width v) T) (.setter f) a i c s =
      .next (s.operCtrl m i.toFin (fun _ => true) (put (c.extractLsb' j f.width) s.patch[m].op[i.toFin])
        (g (c.extractLsb' j f.width)) f.base f.byte) :=
  opCtrl_setOp ha hc f hj put g hg fun v k h u => run_setter f i.toFin v k h u

/-- With a setter for the voices whose LFO is triggered. -/
theorem opCtrl_gated :
    opCtrl cvs f.width (fun v T => put (BitVec.ofNat f.width v) T) (.gated f) a i c s =
      .next (s.operCtrl m i.toFin (·.lfoTriggered) (put (c.extractLsb' j f.width) s.patch[m].op[i.toFin])
        (g (c.extractLsb' j f.width)) f.base f.byte) :=
  opCtrl_setOp ha hc f hj put g hg fun v k h u => by rw [run_gated, run_setter]

end Commands

/-- Settles O52: each is a setter of its field, for every voice of the channel or for those whose LFO is triggered. -/
theorem operatorControllers : Obligations.OperatorControllers := by
  rintro s a c i m _ _ ha hc rfl rfl
  refine ⟨?_, ?_, ?_, ?_, ?_, ?_, ?_, ?_, ?_, ?_, ?_⟩
  · exact opCtrl_setter ha hc .ar rfl (fun x T => { T with ar := x }) (fun x o => { o with ar := x }) fun _ => rfl
  · exact opCtrl_setter ha hc .dr rfl (fun x T => { T with dr := x }) (fun x o => { o with dr := x }) fun _ => rfl
  · exact opCtrl_setter ha hc .sl rfl (fun x T => { T with sl := x }) (fun x o => { o with sl := x }) fun _ => rfl
  · exact opCtrl_setter ha hc .rr rfl (fun x T => { T with rr := x }) (fun x o => { o with rr := x }) fun _ => rfl
  · exact opCtrl_setter ha hc .ws rfl (fun x T => { T with ws := x }) (fun x o => { o with ws := x }) fun _ => rfl
  · exact opCtrl_setter ha hc .ksl rfl (fun x T => { T with ksl := x }) (fun x o => { o with ksl := x }) fun _ => rfl
  · exact opCtrl_setter ha hc .mult rfl (fun x T => { T with mult := x }) (fun x o => { o with mult := x }) fun _ => rfl
  · exact opCtrl_setter ha hc .sus rfl (fun x T => { T with sus := x }) (fun x o => { o with sus := x }) fun _ => rfl
  · exact opCtrl_setter ha hc .ksr rfl (fun x T => { T with ksr := x }) (fun x o => { o with ksr := x }) fun _ => rfl
  · exact opCtrl_gated ha hc .trem rfl (fun x T => { T with trem := x }) (fun x o => { o with trem := x }) fun _ => rfl
  · exact opCtrl_gated ha hc .vib rfl (fun x T => { T with vib := x }) (fun x o => { o with vib := x }) fun _ => rfl

end Sys2Proof.OperatorFields
end

section
/-! Lists of register writes made voice by voice: a fold over voices is one run of all their targets (R170). -/

namespace Sys2Proof.VoiceRuns

open Sys2Proof.Machine Sys2Proof.OperatorRuns

/-- A body that makes a run of each voice's own targets, whatever of `Same` the runs keep, makes one run of them all. -/
theorem foldl_eq_run {ι τ : Type} {run : State → List τ → State} {Same : State → Prop} {body : State → ι → State}
    {targets : ι → List τ} (hnil : ∀ u, run u [] = u) (happend : ∀ u xs ys, run u (xs ++ ys) = run (run u xs) ys)
    (hsame : ∀ u xs, Same u → Same (run u xs)) (hbody : ∀ i u, Same u → body u i = run u (targets i)) (l : List ι)
    {s : State} (hs : Same s) : l.foldl body s = run s (l.flatMap targets) := by
  induction l generalizing s with
  | nil => exact (hnil s).symm
  | cons i l ih =>
    rw [List.foldl_cons, hbody i s hs, ih (hsame s _ hs), List.flatMap_cons, happend]

section Operators
variable {α : Type} {put : α → Oper → Oper} {writes : OperId → Oper → List RegVal}
  (hwrites : ∀ a b n o, writes n (put b (put a o)) = writes n (put b o))
include hwrites

theorem operRun_append (s : State) (ts us : List (OperId × α)) :
    operRun put writes s (ts ++ us) = operRun put writes (operRun put writes s ts) us := by
  induction ts generalizing s with
  | nil => rw [List.nil_append, operRun_nil]
  | cons t ts ih => rw [List.cons_append, operRun_cons hwrites, ih, ← operRun_cons hwrites]

/-- The operators of each voice in turn (R170). -/
theorem foldl_eq_operRun_flatMap {ι : Type} {s : State} {body : State → ι → State} {targets : ι → List (OperId × α)}
    (hbody : ∀ i u, SameVoices s u → body u i = operRun put writes u (targets i)) (l : List ι) :
    l.foldl body s = operRun put writes s (l.flatMap targets) :=
  foldl_eq_run (Same := SameVoices s) (operRun_nil put writes) (operRun_append hwrites)
    (fun _ _ hu => sameVoices_operRun _ _ hu _) hbody l (SameVoices.refl s)

end Operators

theorem connect_nil (s : State) (put : Chan → Chan) : s.connect [] put = s := sends_nil _

section Channels
variable {put : Chan → Chan} (hput : ∀ x, put (put x) = put x)
include hput

theorem put_foldl_set (cs : List PhysId) (v : Vector Chan 18) (d : PhysId) :
    put (cs.foldl (fun (x : Vector Chan 18) (c : PhysId) => x.set c (put x[c])) v)[d] = put v[d] := by
  induction cs generalizing v with
  | nil => rfl
  | cons c cs ih =>
    rw [List.foldl_cons, ih, AllocatorInvariant.get_set]
    split
    · next h => rw [hput, h]
    · rfl

/-- A change of channels that is made twice is made once, so its runs are one run. -/
theorem connect_append (s : State) (cs ds : List PhysId) :
    s.connect (cs ++ ds) put = (s.connect cs put).connect ds put := by
  simp only [State.connect, sends_chan, put_foldl_set hput]
  simp only [State.sends, List.map_append, List.flatMap_append, List.foldl_append, List.append_assoc]

end Channels

end Sys2Proof.VoiceRuns
end

section
/-! OP_LEVEL, OP_VELSENS and VOLUME: the recomputed attenuations of the voices (R175, R202, R213, R220). -/

namespace Sys2Proof.LevelVoices

open Sys2Proof.Machine Sys2Proof.CommandMoves Sys2Proof.OperatorRuns Sys2Proof.AlgorithmVoices
  Sys2Proof.StoredControllers Sys2Proof.VoiceRuns

/-- The operators of a voice that `sel` selects, with their attenuations, ascending; none of a handle that is not
allocated (R175, R311). -/
def selectedTargets (s : State) (sel : Handle → Fin 4 → Bool) (k : SlotId) (h : Handle) : List (OperId × BitVec 6) :=
  if s.allocd[h] = true then
    (opIndices cvs s h).filterMap (fun i => if sel h i then voiceTarget s k h i else none)
  else []

theorem attenTargets_eq (s : State) (m : MidiId) (sel : Handle → Fin 4 → Bool) :
    attenTargets s m sel = (voicesOf s m (fun _ => true)).flatMap (fun kh => selectedTargets s sel kh.1 kh.2) := rfl

/-- The attenuation of each operator of a voice that `sel` selects, in the state of its write. -/
def attenSelected (sel : State → Handle → Fin 4 → Bool) (k : SlotId) (h : Handle) (t : State) : State :=
  forOpIndices cvs h (fun i u => if sel u h i then setAtten cvs k h i u else u) t

theorem frame_attenSelected (sel : State → Handle → Fin 4 → Bool) (k : SlotId) (h : Handle) (t : State) :
    frame (attenSelected sel k h t) = frame t := by
  refine frame_forOpIndices (fun i u => ?_) t
  split
  · exact frame_setAtten ..
  · rfl

section Selected
variable {sel : State → Handle → Fin 4 → Bool} (hsel : ∀ {s u}, SameVoices s u → sel u = sel s)
include hsel

theorem attenSelected_eq (k : SlotId) (h : Handle) (s : State) :
    attenSelected sel k h s = operRun putLevel levelWrites s (selectedTargets s (sel s) k h) := by
  unfold selectedTargets
  split
  · next ha =>
    refine foldl_eq_operRun (put := putLevel) (writes := levelWrites) (fun _ _ _ _ => rfl) (fun i u hu => ?_) _
    simp only [hsel hu, ← voiceTarget_congr hu]
    split
    · exact setAtten_eq (hu.allocd ▸ ha) k i
    · exact (operRun_nil ..).symm
  · next ha =>
    have hkept (i : Fin 4) : (if sel s h i then setAtten cvs k h i s else s) = s := by
      split
      · exact attempt_error (HandleCommands.setOp_needs .tl i.val _ h s (Bool.eq_false_iff.2 ha))
      · rfl
    rw [operRun_nil, attenSelected, forOpIndices]
    induction opIndices cvs s h with
    | nil => rfl
    | cons i l ih => rw [List.foldl_cons, hkept, ih]

theorem selectedTargets_congr {s u : State} (h : SameVoices s u) (k : SlotId) (g : Handle) :
    selectedTargets u (sel u) k g = selectedTargets s (sel s) k g := by
  simp only [selectedTargets, h.allocd, opIndices_congr h.ctype, hsel h, voiceTarget_congr h]

/-- Every voice of the channel, in slot order (R170). -/
theorem forVoices_attenSelected (m : MidiId) (s : State) :
    forVoices m (attenSelected sel) s = s.attenuate (attenTargets s m (sel s)) := by
  rw [forVoices_eq_foldl (frame_attenSelected sel), attenTargets_eq, attenuate_eq]
  refine foldl_eq_operRun_flatMap (put := putLevel) (writes := levelWrites) (fun _ _ _ _ => rfl) (fun kh u hu => ?_) _
  rw [attenSelected_eq hsel, selectedTargets_congr hsel hu]

end Selected

/-! ### One operator index (R213, R220) -/

theorem mem_opIndices {s : State} {h : Handle} {i : Fin 4} : i ∈ opIndices cvs s h ↔ i.val < opCount cvs s h := by
  have hall : ∀ i : Fin 4, i ∈ allOpIndices := by decide
  simp only [opIndices, List.mem_filter, hall, true_and, decide_eq_true_eq]

theorem opIndices_nodup (s : State) (h : Handle) : (opIndices cvs s h).Nodup := by
  have hall : allOpIndices.Nodup := by decide
  exact hall.filter _

/-- The operator index `i` is among those of a handle once, or not at all. -/
theorem opIndices_filter (s : State) (h : Handle) (i : Fin 4) :
    (opIndices cvs s h).filter (fun j => j = i) = if i.val < opCount cvs s h then [i] else [] := by
  rw [List.filter_eq, (opIndices_nodup s h).count]
  simp only [mem_opIndices]
  split <;> rfl

/-- Step (b) of OP_LEVEL and OP_VELSENS for a voice is the attenuation of its one operator of that index. -/
theorem run_attenuation (i : Fin 4) (v : Nat) (k : SlotId) (h : Handle) (s : State) :
    OpApply.attenuation.run cvs i v k h s = attenSelected (fun _ _ j => j = i) k h s := by
  rw [attenSelected, forOpIndices, ← List.foldl_filter, opIndices_filter, OpApply.run]
  split <;> rfl

/-! ### The carriers (R202) -/

def isCarrier (s : State) (h : Handle) (i : Fin 4) : Bool := opType cvs s h i.val = .carrier

theorem isCarrier_congr {s u : State} (h : SameVoices s u) : isCarrier u = isCarrier s := by
  funext g i
  simp only [isCarrier, opType_congr h.ctype h.chan]

/-! ### The commands -/

theorem opCtrl_attenuation {s : State} {a c : Byte} {i : BitVec 2} {m : MidiId} (ha : a.toNat = m.val) (hc : c.toNat ≤ 127)
    {w j : Nat} (hj : j + w = 7) (put : BitVec w → Template → Template) {s' : State}
    (hs' : s' = patched s m (withTemplate s.patch[m] i.toFin (put (c.extractLsb' j w) s.patch[m].op[i.toFin]))) :
    opCtrl cvs w (fun v T => put (BitVec.ofNat w v) T) .attenuation a i c s =
      .next ((s'.attenuate (attenTargets s' m (fun _ j => j = i.toFin))).answer .ok 0) := by
  have hrun (v : Nat) : OpApply.attenuation.run cvs i.toFin v = attenSelected (fun _ _ j => j = i.toFin) := by
    funext k h u
    exact run_attenuation i.toFin v k h u
  rw [opCtrl_eq ha hc .attenuation rfl, ofNat_scaled hj, ← hs', hrun, forVoices_attenSelected fun _ => rfl]

theorem exec_volume_carriers {s : State} {a c : Byte} {m : MidiId} (ha : a.toNat = m.val) (hc : c.toNat ≤ 127) :
    exec (.ctrlVolume a c) s = .next ((forVoices m (attenSelected isCarrier)
      (patched s m { s.patch[m] with volume := c.extractLsb' 1 6 })).answer .ok 0) := by
  have hbody : attenSelected isCarrier = fun k h t =>
      forOpIndices cvs h (fun i u => if opType cvs u h i.val = .carrier then setAtten cvs k h i u else u) t := by
    funext k h t
    simp only [attenSelected, isCarrier, decide_eq_true_eq]
  rw [exec_volume ha hc, hbody]

/-- Settles O53: the operators of one index, or the carriers of the voices, have their attenuations written. -/
theorem levelControllers : Obligations.LevelControllers := by
  rintro s a c i m _ _ ha hc rfl rfl
  refine ⟨fun s' hs' => ?_, fun s' hs' => ?_, fun s' hs' => ?_⟩
  · exact opCtrl_attenuation ha hc rfl (fun x T => { T with level := x }) hs'
  · exact opCtrl_attenuation ha hc rfl (fun x T => { T with velSens := x }) hs'
  · rw [exec_volume_carriers ha hc, hs', forVoices_attenSelected isCarrier_congr]
    rfl

end Sys2Proof.LevelVoices
end

section
/-! FEEDBACK and OUTPUT: the 0xC0-base registers of the voices, in slot order (R145, R146, R204, R205). -/

namespace Sys2Proof.RoutingVoices

open Sys2Proof.Machine Sys2Proof.CommandMoves Sys2Proof.HandleCommands Sys2Proof.Setters Sys2Proof.ReleasedVoices
  Sys2Proof.AllocatorInvariant Sys2Proof.StoredControllers Sys2Proof.VoiceRuns

/-! ### One voice -/

/-- The channels whose output routing a handle has (R145). -/
def outputChans (s : State) (h : Handle) : List PhysId :=
  if ctypeOf s h = .fourOp then [physChan cvs h, physChan cvs h + 3] else [physChan cvs h]

/-- The channels whose feedback a handle has: none, for a role with one operator (R146). -/
def feedbackChans (s : State) (h : Handle) : List PhysId := if (ctypeOf s h).singleOp then [] else [physChan cvs h]

/-- The channels of a voice where its handle is allocated: of any other the setter is refused (R311). -/
def heldChans (s : State) (chans : State → Handle → List PhysId) (h : Handle) : List PhysId :=
  if s.allocd[h] = true then chans s h else []

theorem attempt_setOutput (h : Handle) (v : BitVec 4) (s : State) :
    attempt (setOutput cvs h v.toNat) s = s.connect (heldChans s outputChans h) (fun x => { x with out := v }) := by
  unfold heldChans
  split
  · next ha =>
    rw [attempt_ok (setOutput_ok_iff.2 ⟨ha, v.isLt, rfl⟩), BitVec.ofNat_toNat, BitVec.setWidth_eq]
    rfl
  · next ha => rw [attempt_error (setOutput_needs v.toNat h s (Bool.eq_false_iff.2 ha)), connect_nil]

theorem attempt_setFeedback (h : Handle) (v : BitVec 3) (s : State) :
    attempt (setFeedback cvs h v.toNat) s = s.connect (heldChans s feedbackChans h) (fun x => { x with fb := v }) := by
  unfold heldChans
  split
  · next ha =>
    unfold feedbackChans
    split
    · next ht => rw [attempt_error (setFeedback_outOfRange ha (.inl ht)), connect_nil]
    · next ht =>
      rw [attempt_ok (setFeedback_ok_iff.2 ⟨ha, Bool.eq_false_iff.2 ht, v.isLt, rfl⟩), BitVec.ofNat_toNat,
        BitVec.setWidth_eq]
  · next ha => rw [attempt_error (setFeedback_needs v.toNat h s (Bool.eq_false_iff.2 ha)), connect_nil]

/-! ### Every voice of the channel -/

/-- A change of the channels of each voice is one run over the channels of the handles that are allocated (R170). -/
theorem forVoices_connect {m : MidiId} {s : State} {body : SlotId → Handle → State → State} {put : Chan → Chan}
    {chans : State → Handle → List PhysId} (hput : ∀ x, put (put x) = put x)
    (hchans : ∀ {s u : State}, u.ctype = s.ctype → chans u = chans s) (hframe : ∀ k h t, frame (body k h t) = frame t)
    (hbody : ∀ k h t, t.patch = s.patch → body k h t = t.connect (heldChans t chans h) put) :
    forVoices m body s = s.connect ((heldHandles s m (fun _ => true)).flatMap (chans s)) put := by
  have htargets : (heldHandles s m (fun _ => true)).flatMap (chans s) =
      (voicesOf s m (fun _ => true)).flatMap (fun kh => heldChans s chans kh.2) := by
    rw [heldHandles, List.filterMap_eq_flatMap_toList, List.flatMap_assoc]
    congr 1
    funext kh
    unfold heldChans
    split
    · rw [Option.toList_some, List.flatMap_singleton]
    · rfl
  rw [forVoices_eq_foldl hframe, htargets]
  refine foldl_eq_run (run := fun u cs => u.connect cs put) (Same := fun u => frame u = frame s) (fun u => connect_nil u put)
    (fun u cs ds => connect_append hput u cs ds) (fun u cs hu => (frame_connect u cs put).trans hu) (fun kh u hu => ?_) _ rfl
  have hctype : u.ctype = s.ctype := congrArg Frame.ctype hu
  have hallocd : u.allocd = s.allocd := congrArg Frame.allocd hu
  have hheld : heldChans u chans kh.2 = heldChans s chans kh.2 := by simp only [heldChans, hchans hctype, hallocd]
  rw [hbody _ _ _ (congrArg Frame.patch hu), hheld]

theorem outputChans_congr {s u : State} (h : u.ctype = s.ctype) : outputChans u = outputChans s := by
  funext g
  simp only [outputChans, ctypeOf_congr h]

theorem feedbackChans_congr {s u : State} (h : u.ctype = s.ctype) : feedbackChans u = feedbackChans s := by
  funext g
  simp only [feedbackChans, ctypeOf_congr h]

/-- The channels of the handles that are not of a role with one operator. -/
theorem flatMap_feedbackChans (s : State) (hs : List Handle) :
    hs.flatMap (feedbackChans s) =
      (hs.filter (fun h => ctypeOf s h ∉ ([.snare, .tomTom, .cymbal, .hiHat] : List ChType))).map (physChan cvs) := by
  simp only [← singleOp_iff, decide_not, Bool.decide_eq_true]
  induction hs with
  | nil => rfl
  | cons h hs ih =>
    rw [List.flatMap_cons, ih, feedbackChans]
    cases ht : (ctypeOf s h).singleOp with
    | true => simp [ht]
    | false => simp [ht]

theorem patch_patched (s : State) (m : MidiId) (P : Patch) : (patched s m P).patch[m] = P := by
  rw [patched, get_set, if_pos rfl]

/-- Settles O55: each command is one run over the channels that its setter writes for the handles of the voices. -/
theorem routingControllers : Obligations.RoutingControllers := by
  rintro s a c m _ _ ha hc rfl rfl
  refine ⟨?_, ?_⟩
  · rw [exec_output ha hc, forVoices_connect (put := fun x => { x with out := c.extractLsb' 3 4 }) (fun _ => rfl)
      outputChans_congr (fun k h t => frame_attempt fun _ e => frame_setOutput e) fun k h t ht => ?_]
    · rfl
    · rw [ht, patch_patched, attempt_setOutput]
  · rw [exec_feedback ha hc, forVoices_connect (put := fun x => { x with fb := c.extractLsb' 4 3 }) (fun _ => rfl)
      feedbackChans_congr (fun k h t => frame_attempt fun _ e => frame_setFeedback e) fun k h t ht => ?_,
      flatMap_feedbackChans]
    · rfl
    · rw [ht, patch_patched, attempt_setFeedback]

end Sys2Proof.RoutingVoices
end

section
/-! ALL_SOUND_OFF with any number of voices: the net effect of the forced silences on slots, handles, pools, key bits and
the register cache (R126, R176, R222). -/

namespace Sys2Proof.SilencedChannel

open Sys2Proof.Machine Sys2Proof.CommandMoves Sys2Proof.AllocatorInvariant Sys2Proof.Visits Sys2Proof.VoiceMoves
  Sys2Proof.ReleaseExpiry Sys2Proof.SilencedVoices Sys2Proof.ReleasedVoices

/-! ### A handle given back (R126) -/

/-- The pools after a handle is given back: its channel is in its type's. -/
theorem pools_freed (s : State) (h : Handle) (c : PhysId) :
    (s.freed h).free2[c] = (s.free2[c] || (s.ctype[c] == .twoOp && physHandle c == h))
      ∧ (s.freed h).free4[c] = (s.free4[c] || (s.ctype[c] == .fourOp && physHandle c == h)) := by
  obtain ⟨d, rfl⟩ | ⟨r, rfl⟩ := handle_cases h
  · rw [freed_phys]
    simp only [get_ite, get_set, beq_eq_decide, physHandle_inj]
    by_cases hcd : c = d
    · subst hcd
      cases s.ctype[c] <;> simp
    · simp [hcd]
  · rw [freed_role]
    simp [physHandle_ne_roleHandle]

theorem fourOpMask_freed (s : State) (h : Handle) : (s.freed h).fourOpMask = s.fourOpMask := by
  obtain ⟨c, rfl⟩ | ⟨r, rfl⟩ := handle_cases h
  · rw [freed_phys]
  · rw [freed_role]

/-! ### One forced silence (R176) -/

/-- A channel at frequency 0. -/
def ZeroFreq (x : Chan) : Prop := x.fnum = 0 ∧ x.block = 0

/-- An operator with no level and the fastest release. -/
def Silent (o : Oper) : Prop := o.tl = 63 ∧ o.rr = 15

theorem silent_foldl (ns : List OperId) (v : Vector Oper 36) {n : OperId} (h : n ∈ ns ∨ Silent v[n]) :
    Silent (ns.foldl (fun (o : Vector Oper 36) (m : OperId) => o.set m { o[m] with tl := 63, rr := 15 }) v)[n] := by
  induction ns generalizing v with
  | nil => exact h.resolve_left (by simp)
  | cons m ns ih =>
    rw [List.foldl_cons]
    refine ih _ ?_
    rw [get_set]
    split
    · exact .inr ⟨rfl, rfl⟩
    · next hne => exact h.imp_left fun hm => (List.mem_cons.1 hm).resolve_left hne

section Held
variable {s : State} {h : Handle} (ha : s.allocd[h] = true) (k : SlotId)
include ha

theorem allocd_silenced (g : Handle) : (s.silenced k h).allocd[g] = (s.allocd[g] && !(g == h)) := by
  have hallocd : (s.silenced k h).allocd = s.allocd.set h false := by
    rw [State.silenced, if_pos ha, sends_allocd, allocd_freed]
  rw [hallocd, get_set]
  by_cases hg : g = h <;> simp [hg]

theorem pools_silenced : (s.silenced k h).free2 = (s.freed h).free2 ∧ (s.silenced k h).free4 = (s.freed h).free4 := by
  rw [State.silenced, if_pos ha]
  exact ⟨rfl, rfl⟩

theorem fourOpMask_silenced : (s.silenced k h).fourOpMask = s.fourOpMask := by
  rw [State.silenced, if_pos ha, sends_fourOpMask, fourOpMask_freed]

theorem chan_silenced (c : PhysId) :
    (s.silenced k h).chan[c] = if c = physChan cvs h then silentChan s h else s.chan[c] := by
  have hchan : (s.silenced k h).chan = s.chan.set (physChan cvs h) (silentChan s h) := by
    rw [State.silenced, if_pos ha, sends_chan]
  rw [hchan, get_set]

/-- A role's key bit is not its channel's (R26, R94). -/
theorem keyOn_silenced (c : PhysId) :
    (s.silenced k h).chan[c].keyOn = if physHandle c = h then 0 else s.chan[c].keyOn := by
  rw [chan_silenced ha]
  obtain ⟨d, rfl⟩ | ⟨r, rfl⟩ := handle_cases h
  · have hd : (physHandle d).val < 18 := d.isLt
    simp only [physChan_phys, physHandle_inj, silentChan, hd, if_true]
    split <;> rfl
  · have hr : ¬ (roleHandle r).val < 18 := by simp [roleHandle]
    rw [if_neg (physHandle_ne_roleHandle c r)]
    split
    · next hc => simp only [silentChan, hr, if_false, hc]
    · rfl

theorem zeroFreq_silenced {c : PhysId} (hc : c = physChan cvs h ∨ ZeroFreq s.chan[c]) :
    ZeroFreq (s.silenced k h).chan[c] := by
  rw [chan_silenced ha]
  split
  · exact ⟨rfl, rfl⟩
  · next hne => exact hc.resolve_left hne

theorem percKey_silenced (r : RoleId) : (s.silenced k h).percKey[r] = (s.percKey[r] && !(roleHandle r == h)) := by
  have hkey : (s.silenced k h).percKey = Vector.ofFn (fun r => if h = roleHandle r then false else s.percKey[r]) := by
    rw [State.silenced, if_pos ha, sends_percKey]
  rw [hkey, Fin.getElem_fin, Vector.getElem_ofFn]
  by_cases hr : h = roleHandle r
  · simp [hr]
  · simp [hr, Ne.symm hr]

theorem silent_silenced {n : OperId} (hn : n ∈ opsOf cvs s h ∨ Silent s.oper[n]) : Silent (s.silenced k h).oper[n] := by
  rw [State.silenced, if_pos ha, sends_oper]
  exact silent_foldl _ _ hn

end Held

/-! ### The forced silences of several handles -/

/-- What the forced silences of the handles `held` have made of state `s`. -/
structure SilencedOf (s : State) (held : Handle → Bool) (t : State) : Prop where
  ctype : t.ctype = s.ctype
  fourOpMask : t.fourOpMask = s.fourOpMask
  allocd : ∀ h : Handle, t.allocd[h] = (s.allocd[h] && !held h)
  free2 : ∀ c : PhysId, t.free2[c] = (s.free2[c] || (s.ctype[c] == .twoOp && held (physHandle c)))
  free4 : ∀ c : PhysId, t.free4[c] = (s.free4[c] || (s.ctype[c] == .fourOp && held (physHandle c)))
  keyOn : ∀ c : PhysId, t.chan[c].keyOn = if held (physHandle c) = true then 0 else s.chan[c].keyOn
  percKey : ∀ r : RoleId, t.percKey[r] = (s.percKey[r] && !held (roleHandle r))
  oper : ∀ h, held h = true → ∀ n ∈ opsOf cvs s h, Silent t.oper[n]
  chan : ∀ h, held h = true → ZeroFreq t.chan[physChan cvs h]

theorem SilencedOf.refl (s : State) : SilencedOf s (fun _ => false) s := by
  constructor <;> simp

/-- One more handle, held until then. -/
theorem SilencedOf.silenced {s t : State} {held : Handle → Bool} (hs : SilencedOf s held t) {h : Handle}
    (ha : t.allocd[h] = true) (k : SlotId) : SilencedOf s (fun g => held g || g == h) (t.silenced k h) where
  ctype := (ctype_silenced t k h).trans hs.ctype
  fourOpMask := (fourOpMask_silenced ha k).trans hs.fourOpMask
  allocd g := by rw [allocd_silenced ha, hs.allocd, Bool.not_or, Bool.and_assoc]
  free2 c := by
    obtain ⟨hpool, -⟩ := pools_silenced ha k
    obtain ⟨hfreed, -⟩ := pools_freed t h c
    rw [hpool, hfreed, hs.free2, hs.ctype, Bool.and_or_distrib_left, Bool.or_assoc]
  free4 c := by
    obtain ⟨-, hpool⟩ := pools_silenced ha k
    obtain ⟨-, hfreed⟩ := pools_freed t h c
    rw [hpool, hfreed, hs.free4, hs.ctype, Bool.and_or_distrib_left, Bool.or_assoc]
  keyOn c := by
    rw [keyOn_silenced ha, hs.keyOn]
    by_cases hc : physHandle c = h <;> simp [hc]
  percKey r := by rw [percKey_silenced ha, hs.percKey, Bool.not_or, Bool.and_assoc]
  oper g hg n hn := by
    rw [Bool.or_eq_true, beq_iff_eq] at hg
    refine silent_silenced ha k (hg.symm.imp (fun e => ?_) fun hg => hs.oper g hg n hn)
    rw [opsOf_congr hs.ctype, ← e]
    exact hn
  chan g hg := by
    rw [Bool.or_eq_true, beq_iff_eq] at hg
    exact zeroFreq_silenced ha k (hg.symm.imp (congrArg _) (hs.chan g))

/-- Of a handle that is not held only the slot changes (R311). -/
theorem SilencedOf.refused {s t : State} {held : Handle → Bool} (hs : SilencedOf s held t) {h : Handle}
    (ha : ¬ t.allocd[h] = true) (k : SlotId) : SilencedOf s held (t.silenced k h) := by
  rw [State.silenced, if_neg ha]
  exact ⟨hs.ctype, hs.fourOpMask, hs.allocd, hs.free2, hs.free4, hs.keyOn, hs.percKey, hs.oper, hs.chan⟩

theorem or_beq_of_held {held : Handle → Bool} {h : Handle} (hh : held h = true) : (fun g => held g || g == h) = held := by
  funext g
  by_cases hg : g = h
  · rw [hg, hh, Bool.true_or]
  · rw [beq_eq_false_iff_ne.2 hg, Bool.or_false]

theorem heldOf_append (s : State) (vs : List (SlotId × Handle)) (k : SlotId) (h : Handle) :
    heldOf s (vs ++ [(k, h)]) = if s.allocd[h] = true then heldOf s vs ++ [h] else heldOf s vs := by
  have hone := heldOf_cons s k h []
  rw [heldOf, List.filterMap_append, ← heldOf, ← heldOf, hone]
  split
  · rfl
  · exact List.append_nil _

/-- The voices silenced one after another: a handle that comes a second time is no longer held. -/
theorem silencedOf_foldl (s : State) (vs : List (SlotId × Handle)) :
    SilencedOf s (heldOf s vs).contains (vs.foldl (fun u kh => u.silenced kh.1 kh.2) s) := by
  induction vs using List.reverseRecOn with
  | nil => exact SilencedOf.refl s
  | append_singleton vs kh ih =>
    obtain ⟨k, h⟩ := kh
    rw [List.foldl_append, List.foldl_cons, List.foldl_nil, heldOf_append]
    generalize vs.foldl (fun u kh => u.silenced kh.1 kh.2) s = t at ih ⊢
    have hallocd := ih.allocd h
    have happend : (heldOf s vs ++ [h]).contains = fun g => (heldOf s vs).contains g || g == h := by
      funext g
      simp [beq_eq_decide]
    by_cases ha : t.allocd[h] = true
    · rw [ha, eq_comm, Bool.and_eq_true] at hallocd
      obtain ⟨hs, -⟩ := hallocd
      rw [if_pos hs, happend]
      exact ih.silenced ha k
    · split
      · next hs =>
        have hagain : (heldOf s vs).contains h = true := by simpa [hs, ha] using hallocd
        rw [happend, or_beq_of_held hagain]
        exact ih.refused ha k
      · exact ih.refused ha k

/-! ### The command -/

theorem silencedOf_silencedAll (s : State) (m : MidiId) :
    SilencedOf s (heldHandles s m (fun _ => true)).contains (silencedAll s m) := silencedOf_foldl s _

theorem slot_silencedAll (s : State) (m : MidiId) :
    (silencedAll s m).slot = s.slot.map (fun x => if chosen m (fun _ => true) x then slotReset else x) := by
  rw [← forVoices_forceSilence, forVoices,
    slot_visitVoices (body := forceSilence cvs) (f := fun _ => slotReset) (ofChannel_iff m) slot_forceSilence]

/-- Settles O57: the forced silences of the voices, taken together; it holds of any slots. -/
theorem allSoundOffSilences : Obligations.AllSoundOffSilences := by
  intro s a c m ha hc _
  have hslot := slot_silencedAll s m
  have hpatch := patch_silencedAll s m
  have hsilenced := silencedOf_silencedAll s m
  refine ⟨_, exec_allSoundOff ha hc s, rfl, ?_⟩
  generalize silencedAll s m = t at hslot hpatch hsilenced ⊢
  refine ⟨hslot, hsilenced.allocd, fun h hh => ?_, fun p => ?_, hsilenced.percKey, hsilenced.free2, hsilenced.free4,
    hpatch, hsilenced.ctype, hsilenced.fourOpMask⟩
  · have hheld := List.contains_iff_mem.2 hh
    exact ⟨hsilenced.oper h hheld, hsilenced.chan h hheld⟩
  · rw [answer_chan, hsilenced.keyOn]
    simp only [List.contains_iff_mem]

end Sys2Proof.SilencedChannel
end

section
/-! SERVICE on every slot: what becomes of each slot, how many voices are freed, and the visits as one fold over the slots
(R241 to R247). -/

namespace Sys2Proof.ServicedSlots

open Sys2Proof.Machine Sys2Proof.AllocatorInvariant Sys2Proof.Visits Sys2Proof.ServiceVoice Sys2Proof.VoiceMoves
  Sys2Proof.ReleaseExpiry

/-! ### The number of voices freed (R241) -/

/-- Slot `k` holds a voice in `s` and is Free in `t`. -/
def freedAt (s t : State) (k : SlotId) : Bool := s.slot[k].lchan.isSome && t.slot[k].lchan.isNone

theorem freedAt_congr {s s' t t' : State} {k : SlotId} (hs : s'.slot[k] = s.slot[k]) (ht : t'.slot[k] = t.slot[k]) :
    freedAt s' t' k = freedAt s t k := by
  rw [freedAt, freedAt, hs, ht]

/-- A voice adds one to the value of SERVICE exactly when its slot ends Free. -/
theorem serviceVoice_count {s : State} {k : SlotId} {h : Handle} (hk : s.slot[k].lchan = some h) (v : BitVec 16) :
    (serviceVoice cvs v k h s).2 = (freedAt s (serviceVoice cvs v k h s).1 k).toNat := by
  have hstays : freedAt s (s.timed v k h) k = false := by
    rw [freedAt, slot_timed_self, Slot.serviced, hk]
    rfl
  cases hrel : s.slot[k].releasing with
  | false =>
    rw [serviceVoice_of_not_releasing hrel, hstays]
    rfl
  | true =>
    rw [serviceVoice_of_releasing hrel, timerOutcome]
    split
    · rw [freedAt, slot_silenced, get_set, if_pos rfl, hk]
      rfl
    · rw [freedAt_congr (s := s) (t := s.timed v k h) rfl (by rw [slot_slowestRate]), hstays]
      rfl

/-- What SERVICE does when it comes to slot `k`. -/
def serviceStep (v : BitVec 16) : State × Nat → SlotId → State × Nat := visitStep (fun _ => true) (serviceVoice cvs v)

theorem serviceStep_count (v : BitVec 16) (acc : State × Nat) (k : SlotId) :
    (serviceStep v acc k).2 = acc.2 + (freedAt acc.1 (serviceStep v acc k).1 k).toNat := by
  rw [serviceStep]
  cases hk : acc.1.slot[k].lchan with
  | none =>
    rw [visitStep_free hk, freedAt, hk]
    rfl
  | some h => rw [visitStep_visit hk rfl, serviceVoice_count hk]

theorem slot_serviceStep (v : BitVec 16) {k l : SlotId} (hne : l ≠ k) (acc : State × Nat) :
    (serviceStep v acc k).1.slot[l] = acc.1.slot[l] := slot_visitStep (ownSlot_serviceVoice v) hne acc

theorem foldl_serviceStep_count (v : BitVec 16) (l : List SlotId) (hl : l.Nodup) (acc : State × Nat) :
    (l.foldl (serviceStep v) acc).2 = acc.2 + l.countP (freedAt acc.1 (l.foldl (serviceStep v) acc).1) := by
  induction l generalizing acc with
  | nil => rfl
  | cons k l ih =>
    obtain ⟨hk, hl⟩ := List.nodup_cons.1 hl
    rw [List.foldl_cons, ih hl, serviceStep_count, List.countP_cons]
    generalize ht : (l.foldl (serviceStep v) (serviceStep v acc k)).1 = t
    have hself : t.slot[k] = (serviceStep v acc k).1.slot[k] :=
      ht ▸ slot_foldl_visitStep (ownSlot_serviceVoice v) l hk (serviceStep v acc k)
    have hrest : l.countP (freedAt (serviceStep v acc k).1 t) = l.countP (freedAt acc.1 t) :=
      List.countP_congr fun j hj => by
        have hne : j ≠ k := fun e => hk (e ▸ hj)
        rw [freedAt_congr (slot_serviceStep v hne acc) rfl]
    rw [hrest, freedAt_congr (s := acc.1) rfl hself.symm]
    cases freedAt acc.1 t k with
    | false => rfl
    | true => rw [Bool.toNat_true, if_pos rfl, Nat.add_assoc, Nat.add_comm 1]

/-- The state after SERVICE's visits, and its value (R241). -/
def served (s : State) (v : BitVec 16) : State × Nat := visitVoices (fun _ => true) (serviceVoice cvs v) s

theorem served_eq (s : State) (v : BitVec 16) : served s v = allSlots.foldl (serviceStep v) (s, 0) := visitVoices_eq s

theorem served_count (s : State) (v : BitVec 16) :
    (served s v).2 = ((List.finRange 23).filter (freedAt s (served s v).1)).length := by
  have hslots : List.finRange 23 = allSlots := by decide
  rw [hslots, ← List.countP_eq_length_filter, served_eq, foldl_serviceStep_count v allSlots allSlots_nodup, Nat.zero_add]

theorem exec_service_served (s : State) (v : BitVec 16) :
    exec (.service v) s = .next ((served s v).1.answer .ok (BitVec.ofNat 8 (served s v).2)) := exec_service s v

/-- SERVICE: the visits of every slot, and as the value the number of the slots that they free (R241). -/
theorem exec_service_count (s : State) (v : BitVec 16) :
    exec (.service v) s = .next ((served s v).1.answer .ok (BitVec.ofNat 8
      ((List.finRange 23).filter (freedAt s (served s v).1)).length)) := by
  rw [← served_count s v, exec_service_served]

/-! ### What becomes of each slot (R242 to R247) -/

theorem patch_served (s : State) (v : BitVec 16) : (served s v).1.patch = s.patch := by
  rw [served]
  exact visit_induct (P := fun u => u.patch = s.patch) (fun k h u hu _ _ => (patch_serviceVoice v k h u).trans hu) rfl

/-- An unbound slot is passed over; a bound one is served once, and found as SERVICE found it. -/
theorem slot_served (s : State) (v : BitVec 16) (k : SlotId) :
    (s.slot[k].lchan = none ∧ (served s v).1.slot[k] = s.slot[k])
    ∨ (s.slot[k].lchan ≠ none ∧ ((served s v).1.slot[k] = s.slot[k].serviced s.patch[s.slot[k].midiCh] v
        ∨ ((served s v).1.slot[k] = slotReset ∧ s.slot[k].releasing = true))) := by
  rw [served]
  obtain ⟨hfree | hpass, e⟩ | ⟨h, u, hk, -, hpatch, hslot, e⟩ := visit_slot (sel := fun _ => true) (ownSlot_serviceVoice v)
    (P := fun u => u.patch = s.patch) k rfl (fun j h u _ _ hu => (patch_serviceVoice v j h u).trans hu)
  · exact .inl ⟨hfree, e⟩
  · cases hpass
  · refine .inr ⟨by rw [hk]; exact Option.some_ne_none h, ?_⟩
    obtain ⟨y, hy, hset⟩ := slot_serviceVoice v k h u
    rw [hset, get_set, if_pos rfl] at e
    simp only [hslot, hpatch] at hy
    obtain rfl | ⟨hrel, rfl⟩ := hy
    · exact .inl e
    · exact .inr ⟨e, hrel⟩

/-- Settles O58: each slot by the one visit that it gets, the value by the slots found Free afterwards. -/
theorem serviceCounters : Obligations.ServiceCounters := by
  intro s v
  have hexec := exec_service_count s v
  have hpatch := patch_served s v
  have hslots := slot_served s v
  generalize (served s v).1 = t at hexec hpatch hslots
  refine ⟨_, hexec, fun k => ?_, hpatch, rfl⟩
  rw [answer_slot]
  obtain ⟨hfree, e⟩ | ⟨hbound, hslot⟩ := hslots k
  · exact ⟨fun _ => e, fun hbound => absurd hfree hbound⟩
  · exact ⟨fun hfree => absurd hfree hbound, fun _ => hslot⟩

/-! ### One slot after another (R241 to R249) -/

theorem serviceVoice_not_over {s : State} {k : SlotId} {h : Handle} {r : Nat} {v : BitVec 16}
    (hrel : s.slot[k].releasing = true) (hr : slowest s h = some r)
    (hover : releaseOver r (counted s.slot[k].releaseDuration v).toNat = false) :
    serviceVoice cvs v k h s = (s.timed v k h, 0) := by
  obtain ⟨rate, hrate, rfl⟩ := slowestRate_of_slowest ((slowest_timed s v k h).trans hr)
  rw [serviceVoice_of_releasing hrel, hrate, timerOutcome, expired_eq, hover, if_neg Bool.false_ne_true]

/-- A handle with an operator has a slowest release rate (R245). -/
theorem exists_slowest {s : State} {h : Handle} (hops : opsOf cvs s h ≠ []) : ∃ r, slowest s h = some r :=
  Option.isSome_iff_exists.1 (by simpa [slowest, List.isSome_min?_iff] using hops)

theorem serviceSlot_free {s : State} {k : SlotId} (hk : s.slot[k].lchan = none) (v : BitVec 16) : s.serviceSlot v k = s := by
  simp only [State.serviceSlot, hk]

theorem serviceSlot_voice {s : State} {k : SlotId} {h : Handle} (hk : s.slot[k].lchan = some h) (v : BitVec 16) :
    s.serviceSlot v k =
      if s.slot[k].releasing = true ∧ overdue s h (counted s.slot[k].releaseDuration v).toNat = true then
        (s.timed v k h).silenced k h
      else s.timed v k h := by
  simp only [State.serviceSlot, hk]

theorem overdue_eq {s : State} {h : Handle} {r : Nat} (hr : slowest s h = some r) (elapsed : Nat) :
    overdue s h elapsed = releaseOver r elapsed := by
  simp only [overdue, hr]

/-- The visit of a voice is `serviceSlot` where a Releasing voice has an operator (R245, log 4). -/
theorem serviceVoice_eq_serviceSlot {s : State} {k : SlotId} {h : Handle} (hk : s.slot[k].lchan = some h) (v : BitVec 16)
    (hops : s.slot[k].releasing = true → opsOf cvs s h ≠ []) : (serviceVoice cvs v k h s).1 = s.serviceSlot v k := by
  rw [serviceSlot_voice hk]
  cases hrel : s.slot[k].releasing with
  | false => rw [serviceVoice_of_not_releasing hrel, if_neg fun hover => Bool.false_ne_true hover.1]
  | true =>
    obtain ⟨r, hr⟩ := exists_slowest (hops hrel)
    rw [overdue_eq hr]
    cases hover : releaseOver r (counted s.slot[k].releaseDuration v).toNat with
    | false => rw [serviceVoice_not_over hrel hr hover, if_neg fun hover => Bool.false_ne_true hover.2]
    | true => rw [serviceVoice_over hrel hr hover, if_pos ⟨rfl, rfl⟩]

theorem serviceStep_eq_serviceSlot {acc : State × Nat} {k : SlotId} (v : BitVec 16)
    (hops : ∀ h, acc.1.slot[k].lchan = some h → acc.1.slot[k].releasing = true → opsOf cvs acc.1 h ≠ []) :
    (serviceStep v acc k).1 = acc.1.serviceSlot v k := by
  rw [serviceStep]
  cases hk : acc.1.slot[k].lchan with
  | none => rw [visitStep_free hk, serviceSlot_free hk]
  | some h => rw [visitStep_visit hk rfl, serviceVoice_eq_serviceSlot hk v (hops h hk)]

theorem ctype_serviceStep (v : BitVec 16) (acc : State × Nat) (k : SlotId) :
    (serviceStep v acc k).1.ctype = acc.1.ctype := by
  obtain ⟨-, e⟩ | ⟨h, -, -, e⟩ := visitStep_cases (sel := fun _ => true) (body := serviceVoice cvs v) acc k
  · rw [serviceStep, e]
  · rw [serviceStep, e]
    exact (serviceVoice_kept acc.1 v k h).1

/-- Each voice comes to its visit with its slot and the channel types, and so its operators (R92), as SERVICE found them. -/
theorem foldl_serviceStep_eq_serviceSlot {s : State} (v : BitVec 16)
    (hops : ∀ (k : SlotId) (h : Handle), s.slot[k].lchan = some h → s.slot[k].releasing = true → opsOf cvs s h ≠ [])
    (l : List SlotId) (hl : l.Nodup) {acc : State × Nat} (hctype : acc.1.ctype = s.ctype)
    (hslot : ∀ j ∈ l, acc.1.slot[j] = s.slot[j]) :
    (l.foldl (serviceStep v) acc).1 = l.foldl (State.serviceSlot v) acc.1 := by
  induction l generalizing acc with
  | nil => rfl
  | cons k l ih =>
    obtain ⟨hk, hl⟩ := List.nodup_cons.1 hl
    have hvisit : (serviceStep v acc k).1 = acc.1.serviceSlot v k := by
      refine serviceStep_eq_serviceSlot v fun h hbound hrel => ?_
      rw [hslot k (List.mem_cons_self ..)] at hbound hrel
      rw [opsOf_congr hctype]
      exact hops k h hbound hrel
    rw [List.foldl_cons, List.foldl_cons, ← hvisit]
    refine ih hl ((ctype_serviceStep v acc k).trans hctype) fun j hj => ?_
    have hne : j ≠ k := fun e => hk (e ▸ hj)
    rw [slot_serviceStep v hne, hslot j (List.mem_cons_of_mem _ hj)]

/-! ### One voice that is not freed (R242 to R244) -/

/-- A voice that is not Releasing, or whose release time is not exceeded. -/
theorem serviceVoice_of_stays {s : State} {k : SlotId} {h : Handle} {v : BitVec 16}
    (hstays : s.slot[k].releasing = true →
      ∃ r, slowest s h = some r ∧ releaseOver r (counted s.slot[k].releaseDuration v).toNat = false) :
    serviceVoice cvs v k h s = (s.timed v k h, 0) := by
  cases hrel : s.slot[k].releasing with
  | false => exact serviceVoice_of_not_releasing hrel v h
  | true =>
    obtain ⟨r, hr, hover⟩ := hstays hrel
    exact serviceVoice_not_over hrel hr hover

/-- SERVICE with one bound voice, which stays. -/
theorem served_single {s : State} {k : SlotId} {h : Handle} {v : BitVec 16} (hk : s.slot[k].lchan = some h)
    (hfree : ∀ j : SlotId, j ≠ k → s.slot[j].lchan = none)
    (hstays : s.slot[k].releasing = true →
      ∃ r, slowest s h = some r ∧ releaseOver r (counted s.slot[k].releaseDuration v).toNat = false) :
    served s v = (s.timed v k h, 0) := by
  rw [served, visitVoices_eq_boundVoices (ownSlot_serviceVoice v), boundVoices_single hk hfree]
  simp only [List.foldl_cons, List.foldl_nil, serviceVoice_of_stays hstays, Nat.zero_add]

/-- Settles O60: the fold over the slots with any number of voices, then the SERVICE of a single voice that stays. -/
theorem lfoStart : Obligations.LfoStart := by
  refine ⟨?_, ?_⟩
  · intro s t v hops ht
    have hserved : (served s v).1 = t := by
      rw [ht, served_eq, foldl_serviceStep_eq_serviceSlot v hops allSlots allSlots_nodup rfl fun _ _ => rfl]
    rw [exec_service_count, hserved]
    rfl
  · rintro s v k h _ _ hk hfree rfl hstays rfl
    rw [← lfoDue_eq, exec_service_served, served_single hk hfree hstays]
    rfl

end Sys2Proof.ServicedSlots
end

section
/-! The system commands INIT and DETECT: their register writes and status reads, and the whole state after each (R261,
R262). -/

namespace Sys2Proof.SystemCommands

open Sys2Proof.Machine

/-! ### Runs of register writes (R63) -/

/-- A run of steps that are register writes, each with bytes that no register write changes, is one run of writes. -/
theorem foldl_eq_sends {α : Type} {f : State → α → State} {g : State → α → List RegVal}
    (hf : ∀ t x, f t x = t.sends (g t x)) (hg : ∀ t ws x, g (t.sends ws) x = g t x) (l : List α) (s : State) :
    l.foldl f s = s.sends (l.flatMap (g s)) := by
  induction l generalizing s with
  | nil => simp
  | cons x l ih =>
    have hrest : g (s.sends (g s x)) = g s := funext (hg s (g s x))
    rw [List.foldl_cons, hf, ih, hrest, sends_sends, List.flatMap_cons]

/-! ### INIT (R261) -/

/-- The three writes of a channel in INIT's order: `WB0`, `WA0`, `WC0` (R261 step 5). -/
def chanWrites (c : PhysId) (x : Chan) : List RegVal :=
  [(chReg c 0xB0, x.keyBlockByte cvs), (chReg c 0xA0, x.fnumLowByte cvs), (chReg c 0xC0, x.outputByte cvs)]

/-- What INIT's steps (2) to (6) write of a block: the mode register, and every mirrored register with its cached byte. -/
def cacheWrites (s : State) : List RegVal :=
  [((1, 0x05), 0x01), ((1, 0x04), fourOpByte cvs s.fourOpMask), ((0, 0xBD), percussionByte cvs s.percEnabled s.percKey)]
    ++ allChannels.flatMap (fun c => chanWrites c s.chan[c]) ++ allOperators.flatMap (fun n => operWrites n s.oper[n])

theorem writeChannel_eq (s : State) (c : PhysId) :
    wC0 cvs c (wA0 cvs c (wB0 cvs c s)) = s.sends (chanWrites c s.chan[c]) := by
  simp [chanWrites]

theorem writeOperator_eq (s : State) (n : OperId) :
    wE0 cvs n (w80 cvs n (w60 cvs n (w40 cvs n (w20 cvs n s)))) = s.sends (operWrites n s.oper[n]) := by
  simp [operWrites]

/-- INIT's steps (2) to (6), from any state of the block. -/
theorem initWrites_eq (s : State) : initWrites cvs s = s.sends (cacheWrites s) := by
  have hprologue : cvs.initPrologue.foldl (fun t w => regWriteAt cvs w.1 w.2 t) s = s.sends [((1, 0x05), 0x01)] :=
    regWriteAt_eq s (1, 0x05) 0x01
  have hchannels (t : State) :
      allChannels.foldl (fun t c => wC0 cvs c (wA0 cvs c (wB0 cvs c t))) t =
        t.sends (allChannels.flatMap (fun c => chanWrites c t.chan[c])) :=
    foldl_eq_sends (g := fun t c => chanWrites c t.chan[c]) writeChannel_eq (fun _ _ _ => rfl) _ _
  have hoperators (t : State) :
      allOperators.foldl (fun t n => wE0 cvs n (w80 cvs n (w60 cvs n (w40 cvs n (w20 cvs n t))))) t =
        t.sends (allOperators.flatMap (fun n => operWrites n t.oper[n])) :=
    foldl_eq_sends (g := fun t n => operWrites n t.oper[n]) writeOperator_eq (fun _ _ _ => rfl) _ _
  simp only [initWrites, hprologue, hchannels, hoperators, w104_eq, wBD_eq, sends_sends, sends_fourOpMask,
    sends_percEnabled, sends_percKey, sends_chan, sends_oper]
  rfl

/-- The bytes of a channel's cache at its reset value are 0 (R28). -/
theorem chanWrites_reset (c : PhysId) :
    chanWrites c State.reset.chan[c] = [(chReg c 0xB0, 0x00), (chReg c 0xA0, 0x00), (chReg c 0xC0, 0x00)] := by
  have hreset : State.reset.chan[c] = chanReset := Vector.getElem_replicate ..
  rw [hreset]
  rfl

/-- The bytes of a silent operator: attenuation 63, release 15, all else 0 (R29). -/
theorem operWrites_reset (n : OperId) :
    operWrites n State.reset.oper[n] =
      [(opReg n 0x20, 0x00), (opReg n 0x40, 0x3F), (opReg n 0x60, 0x00), (opReg n 0x80, 0x0F), (opReg n 0xE0, 0x00)] := by
  have hreset : State.reset.oper[n] = operReset := Vector.getElem_replicate ..
  rw [hreset]
  rfl

/-- The writes of the block at its reset values are the list of R261. -/
theorem cacheWrites_resetBlock (s : State) : cacheWrites (s.resetBlock cvs) = initRegisters := by
  have hchannels : allChannels = List.finRange 18 := by decide
  have hoperators : allOperators = List.finRange 36 := by decide
  simp only [cacheWrites, initRegisters, resetBlock_chan, resetBlock_oper, resetBlock_fourOpMask, resetBlock_percEnabled,
    resetBlock_percKey, chanWrites_reset, operWrites_reset, hchannels, hoperators]
  rfl

/-- The whole of INIT: the reset of the block, then the writes. -/
theorem exec_init (s : State) : exec .init s = .next (((s.resetBlock cvs).sends initRegisters).answer .ok 0) := by
  rw [← cacheWrites_resetBlock s, ← initWrites_eq]
  rfl

theorem initRegisters_length : initRegisters.length = 237 := by
  simp [initRegisters, List.length_flatMap]

/-- Settles O15: INIT resets the block, and the bytes of the reset cache are those of R261. -/
theorem initRuns : Obligations.InitRuns :=
  ⟨initRegisters_length, fun s =>
    ⟨s.resetBlock cvs, SlotInvariant.holdsResetValues_reset, rfl, rfl, rfl, rfl, rfl, rfl, rfl, exec_init s⟩⟩

/-! ### A status read (R66) -/

/-- The state after a status read that the environment answers with `b`, having then drawn `d` free values. -/
def afterRead (s : State) (b : Byte) (d : Nat) : State :=
  { s with reads := s.reads.drop 1, draws := d, trace := s.trace ++ [.read 0x388 b] }

/-- The byte of a status read is the next listed one, where there is one (log 3). -/
theorem busRead_cases (s : State) :
    ∃ (b : Byte) (d : Nat), busRead 0x388 s = (b, afterRead s b d) ∧ ∀ c rest, s.reads = c :: rest → b = c := by
  cases hreads : s.reads with
  | nil => exact ⟨Config.envByte s.draws, s.draws + 1, by simp [busRead, afterRead, hreads], by simp⟩
  | cons c rest => exact ⟨c, s.draws, by simp [busRead, afterRead, hreads], by simp⟩

/-- The test of DETECT reads bits 7:5 of a status byte (R104, R262). -/
theorem status_flags_iff (b : Byte) :
    (b &&& 0xE0 = 0x00 ↔ b.toNat / 32 = 0) ∧ (b &&& 0xE0 = 0xC0 ↔ b.toNat / 32 = 6) := by
  revert b
  decide

theorem detected_iff (s1 s2 : Byte) : detected cvs s1 s2 = true ↔ s1.toNat / 32 = 0 ∧ s2.toNat / 32 = 6 := by
  rw [detected, statusFlags_eq, statusExpired_eq, Bool.and_eq_true, beq_iff_eq, beq_iff_eq, (status_flags_iff s1).1,
    (status_flags_iff s2).2]

/-! ### DETECT (R262) -/

/-- The writes that silence the chip's timers: both masked, then the status flags cleared. -/
def timersOff : List RegVal := [((0, 0x04), 0x60), ((0, 0x04), 0x80)]

/-- The writes between DETECT's reads: the count of timer 1, then its start. -/
def timerOn : List RegVal := [((0, 0x02), 0xFF), ((0, 0x04), 0x21)]

/-- The six register writes of DETECT. -/
def probeRegisters : List RegVal := timersOff ++ timerOn ++ timersOff

theorem startTimer_eq (s : State) :
    regWriteAt cvs cvs.regs.timerControl (timer1Started cvs) (regWriteAt cvs cvs.regs.timer1 0xFF s) = s.sends timerOn := by
  rw [regWriteAt_eq, regWriteAt_eq, sends_sends, timer1Started_eq]
  rfl

/-- The fourteen transactions of DETECT when the environment answers `s1`, then `s2`. -/
def probeTrace (s1 s2 : Byte) : List BusTx :=
  [.write 0x388 0x04, .write 0x389 0x60, .write 0x388 0x04, .write 0x389 0x80, .read 0x388 s1,
    .write 0x388 0x02, .write 0x389 0xFF, .write 0x388 0x04, .write 0x389 0x21, .read 0x388 s2,
    .write 0x388 0x04, .write 0x389 0x60, .write 0x388 0x04, .write 0x389 0x80]

/-- The state after DETECT, but for `RESULT`, when the environment answers `s1`, then `s2`, having then drawn `d` free
values. -/
def probed (s : State) (s1 s2 : Byte) (d : Nat) : State :=
  { s.sends probeRegisters with reads := s.reads.drop 2, draws := d, trace := s.trace ++ probeTrace s1 s2 }

/-- The writes and reads in DETECT's order, put together. -/
theorem sends_afterRead_eq_probed (s : State) (s1 s2 : Byte) (d1 d2 : Nat) :
    (afterRead ((afterRead (s.sends timersOff) s1 d1).sends timerOn) s2 d2).sends timersOff = probed s s1 s2 d2 := by
  simp [probed, probeRegisters, probeTrace, afterRead, timersOff, timerOn, State.sends, regTx]

/-- The whole of DETECT, for the two bytes that the environment answers with. -/
theorem exec_detect (s : State) :
    ∃ (s1 s2 : Byte) (d : Nat),
      exec .detect s = complete (if s1.toNat / 32 = 0 ∧ s2.toNat / 32 = 6 then 1 else 0) (probed s s1 s2 d)
        ∧ (∀ b rest, s.reads = b :: rest → s1 = b) ∧ (∀ b b' rest, s.reads = b :: b' :: rest → s2 = b') := by
  obtain ⟨s1, d1, hread1, hs1⟩ := busRead_cases (s.sends timersOff)
  obtain ⟨s2, d2, hread2, hs2⟩ := busRead_cases ((afterRead (s.sends timersOff) s1 d1).sends timerOn)
  have hexec : exec .detect s = execDetect s := rfl
  have htimers (t : State) : resetTimers cvs t = t.sends timersOff := resetTimers_eq t
  refine ⟨s1, s2, d2, ?_, hs1, fun b b' rest hreads => hs2 b' rest (congrArg (List.drop 1) hreads)⟩
  simp only [hexec, execDetect, aport_zero, htimers, startTimer_eq, hread1, hread2, detected_iff,
    sends_afterRead_eq_probed]

/-- DETECT leaves the first set's latch at the timer-control register (R31). -/
theorem probed_latch (s : State) (s1 s2 : Byte) (d : Nat) : (probed s s1 s2 d).latch = s.latch.set 0 0x04 := by
  simp [probed, probeRegisters, timersOff, timerOn, State.sends]

/-- The two timer registers hold what DETECT wrote last, every other chip register what it held (R31). -/
theorem chipReg_probed (s : State) (s1 s2 : Byte) (d : Nat) (r : SetId × Byte) :
    chipReg (probed s s1 s2 d) r =
      if r = (0, 0x02) then some 0xFF else if r = (0, 0x04) then some 0x80 else chipReg s r := by
  have hsent : chipReg (probed s s1 s2 d) r = chipReg (s.sends probeRegisters) r := rfl
  have hwritten : ∀ w ∈ probeRegisters, w.1 = (0, 0x02) ∨ w.1 = (0, 0x04) := by
    simp [probeRegisters, timersOff, timerOn]
  rw [hsent]
  split_ifs with htimer hcontrol
  · subst htimer
    rw [chipReg_sends]
    rfl
  · subst hcontrol
    rw [chipReg_sends]
    rfl
  · refine RegisterWrites.chipReg_sends_of_ne (fun w hw hr => ?_) s
    exact (hwritten w hw).elim (fun h => htimer (hr ▸ h)) (fun h => hcontrol (hr ▸ h))

/-- `RESULT` with code OK is the value itself (R271). -/
theorem resultWord_ok_ite (p : Prop) [Decidable p] :
    resultWord .ok (if p then 1 else 0) = if p then 0x0001 else 0x0000 := by
  split <;> rfl

/-- Settles O29: the state after DETECT, with the bytes of its two reads. -/
theorem detectProbes : Obligations.DetectProbes := by
  intro s
  obtain ⟨s1, s2, d, hexec, hs1, hs2⟩ := exec_detect s
  refine ⟨s1, s2, _, hexec, hs1, hs2, ?_, chipReg_probed s s1 s2 d⟩
  rw [State.answer, resultWord_ok_ite, probed_latch]
  rfl

end Sys2Proof.SystemCommands
end

section
/-! The reset event (R50, R301): between commands, and in the course of a command, of which the first transactions have
then been made. -/

namespace Sys2Proof.ResetEvents

open Sys2Proof.Machine

/-! ### The reset values (R50) -/

/-- The table of R50 speaks of the block alone, and of that `resetBlock` keeps nothing. -/
theorem holdsResetValues_resetBlock (s : State) : HoldsResetValues (s.resetBlock cvs) :=
  SlotInvariant.holdsResetValues_reset

/-- A command cut short leaves nothing of what it did to the block (R301). -/
theorem holdsResetValues_cutByReset (s u : State) (n : Nat) : HoldsResetValues (s.cutByReset cvs u n) :=
  SlotInvariant.holdsResetValues_reset

/-! ### The step (R301) -/

/-- Between commands the reset event is a reset of the block, whatever its `n`. -/
theorem step_of_reset_idle {s : State} {n : Nat} {rest : List HostInput} (hidle : s.busy = false)
    (hin : s.inputs = .reset n :: rest) : step s = .next ({ s with inputs := rest }.resetBlock cvs) := by
  simp only [step, stepBy, hidle, hin]

/-- In flight the reset event cuts the command, whose full run would have ended in `u`. -/
theorem step_of_reset_inFlight {s u : State} {n : Nat} {rest : List HostInput} (hbusy : s.busy = true)
    (hin : s.inputs = .reset n :: rest) (hu : runCommand cvs exec { s with inputs := rest } = .next u) :
    step s = .next ({ s with inputs := rest }.cutByReset cvs u n) := by
  have hstep : step s = resetInFlight cvs exec n { s with inputs := rest } := by
    simp only [step, stepBy, hbusy, hin]
  rw [hstep, resetInFlight, hu]

/-- There is always such a `u`: the word in flight is a command, which completes, or is refused (R45, R85). -/
theorem runCommand_completes (s : State) : ∃ u, runCommand cvs exec s = .next u := by
  cases hdecode : decode cvs s.cmd with
  | ok i =>
    obtain ⟨u, hexec, -⟩ := Scope.everyCommandCompletes.1 i s
    exact ⟨u, (Scope.runCommand_of_decode hdecode).trans hexec⟩
  | error e => exact ⟨s.answer .illegalCommand 0, by simp only [runCommand, hdecode, execReserved, refuse]⟩

/-! ### The transactions before the cut (R301) -/

theorem hostSide_apply (cfg : Config.Params) (s : State) (x : BusTx) :
    Scope.hostSide (BusTx.apply cfg s x) = Scope.hostSide s := by
  cases x with
  | write addr data => exact Scope.hostSide_busWrite ..
  | read addr data => rfl

/-- The reset event leaves the host's further acts and `CMD` alone (log 7). -/
theorem hostSide_cutByReset (cfg : Config.Params) (s u : State) (n : Nat) :
    Scope.hostSide (s.cutByReset cfg u n) = Scope.hostSide s :=
  Scope.hostSide_foldl s (hostSide_apply cfg) _

/-- A command that would have made the transactions `d` has, when cut after `n`, made the first `n` of them, and the chip
is what these make of it. -/
theorem cutByReset_trace_and_chip {s u : State} {d : List BusTx} (htrace : u.trace = s.trace ++ d)
    (hconf : ∀ x ∈ d, x.confined = true) (n : Nat) :
    (s.cutByReset cvs u n).trace = s.trace ++ d.take n
      ∧ ((s.cutByReset cvs u n).latch, (s.cutByReset cvs u n).chipRegs)
        = chipReplay (d.take n) (s.latch, s.chipRegs) := by
  have hsent : u.trace.drop s.trace.length = d := by simp [htrace]
  have hmade := Trace.apply_all_confined (fun x hx => hconf x (List.mem_of_mem_take hx)) s (d := d.take n)
  simpa only [State.cutByReset, hsent, resetBlock_trace, resetBlock_latch, resetBlock_chipRegs] using hmade

/-- Settles O8: between commands the step is a reset of the block; in flight it is the cut of a run that completes, whose
transactions are confined to the block's ports, so that their first `n` replay on trace and chip. -/
theorem resetEvent : Obligations.ResetEvent := by
  refine ⟨fun s n rest hidle hin => ?_, fun s n rest hbusy hin => ?_⟩
  · exact ⟨_, step_of_reset_idle hidle hin, holdsResetValues_resetBlock _, rfl, rfl, rfl, rfl⟩
  · obtain ⟨u, hu⟩ := runCommand_completes { s with inputs := rest }
    obtain ⟨d, htrace, hconf, -⟩ := Trace.follows_runCommand hu
    obtain ⟨hcutTrace, hcutChip⟩ := cutByReset_trace_and_chip htrace hconf n
    obtain ⟨-, hinputs⟩ := Scope.hostSide_eq_iff.1 (hostSide_cutByReset cvs { s with inputs := rest } u n)
    exact ⟨_, u, d, step_of_reset_inFlight hbusy hin hu, holdsResetValues_cutByReset _ u n, hu, htrace, hcutTrace, hinputs,
      hcutChip⟩

end Sys2Proof.ResetEvents
end
